-- ==== Sys2Proof/Word.lean ====
section
/-! DEFINITION. The word types of the wire: what the KG-316 receives and sends as bits (R177). -/

namespace Sys2Proof

/-- One byte of a host transaction or a station frame. -/
abbrev Byte := BitVec 8

/-- A two-byte field (R177). -/
abbrev Half := BitVec 16

/-- A five-byte packed-decimal field: an order number or a ticket (R177). -/
abbrev Bcd5 := BitVec 40

/-- A recipe code: one artwork cell, six binary digits (R47, R67). -/
abbrev Code := BitVec 6

/-- A station link, SL0 to SL7 (R82). -/
abbrev LinkNo := Fin 8

end Sys2Proof
end

