-- ==== Sys2Proof/Syntax.lean ====
section
/-! DEFINITION. The commands of the KG-316: one constructor for each row of spec/opcode_table.json. Operands stand in the
widths of the wire (R177), so that every value a transaction or a frame can carry is an operand. -/

namespace Sys2Proof

/-- The steps of the KG-316: host commands (R181), station requests (R182), pulses, timer ends and internal events. -/
inductive Instr where
  /-- POWER_ON (R157). -/
  | powerOn
  /-- RESET_PIN (R157). -/
  | resetPin
  /-- INDEX: one pulse on INDEX (R88). -/
  | index
  /-- BELT_TICK: one pulse on BELT TICK (R134). -/
  | beltTick
  /-- STATION_LATE: the dwell timer comes to its limit (R94). -/
  | stationLate
  /-- TEMP_STALE: the stale timer comes to its limit (R129). -/
  | tempStale
  /-- STALL: the stall timer comes to its limit (R136). -/
  | stall
  /-- LINK_GAP_TIMEOUT: more than 10 ms pass on a link, and then the byte `ending` arrives (R100). -/
  | linkGapTimeout (link : LinkNo) (ending : Byte)
  /-- BAD_FRAME: a frame with the request code `code` whose bytes do not sum to 0, or whose length byte is above 40 (R101). -/
  | badFrame (link : LinkNo) (code : Byte)
  /-- UNKNOWN_REQUEST_CODE: a checked frame whose code names no request (R103). -/
  | unknownRequestCode (link : LinkNo) (code : Byte) (payload : List Byte)
  /-- TRANSACTION_DROPPED: SEL rises before the command is taken (R168). -/
  | transactionDropped
  /-- UNKNOWN_COMMAND: a command byte that names no command (R168). -/
  | unknownCommand (command : Byte)
  /-- DRAIN_END: the drain test (R160). -/
  | drainEnd
  /-- BANK_APPLIED: the test of R59 on one bank. -/
  | bankApplied (bank : Fin 4)
  /-- CANCELLATION_END: the test of R17 on the order with the given number. -/
  | cancellationEnd (order : Nat)
  /-- START (R158, R159). -/
  | start
  /-- HOLD (R158). -/
  | hold
  /-- RESUME (R158). -/
  | resume
  /-- DRAIN (R158). -/
  | drain
  /-- LINE_RESET (R161). -/
  | lineReset
  /-- WRITE_ATTENTION_REQUESTS (mode, mask) (R164). -/
  | writeAttentionRequests (mode : Byte) (mask : Half)
  /-- WRITE_ATTENTION_ENABLES (mode, mask) (R164). -/
  | writeAttentionEnables (mode : Byte) (mask : Half)
  /-- SET_MASTER_ENABLE (ON or OFF) (R164). -/
  | setMasterEnable (value : Byte)
  /-- READ_ATTENTION (R164). -/
  | readAttention
  /-- TAKE_ATTENTION (mask) (R164). -/
  | takeAttention (mask : Half)
  /-- ADD_ORDER (order number, priority class) (R7). -/
  | addOrder (number : Bcd5) (cls : Byte)
  /-- ADD_LINE (blank key, profile, orientation, mask, choke, placement, ordered) (R8). -/
  | addLine (style colour size profile orientation mask choke x y ordered : Byte)
  /-- DELETE_LINE (R9). -/
  | deleteLine
  /-- COMMIT (R10). -/
  | commit
  /-- EDIT_LINE_QTY (new ordered count) (R11). -/
  | editLineQty (ordered : Byte)
  /-- EDIT_LINE_ART (profile, orientation, mask, choke, placement) (R12). -/
  | editLineArt (profile orientation mask choke x y : Byte)
  /-- SET_PRIORITY (priority class) (R13). -/
  | setPriority (cls : Byte)
  /-- HOLD_ORDER (R14). -/
  | holdOrder
  /-- RELEASE_ORDER (R15). -/
  | releaseOrder
  /-- CANCEL_ORDER (R16). -/
  | cancelOrder
  /-- RETIRE_ORDER (R18). -/
  | retireOrder
  /-- SET_STYLE (style, fabric class, length) (R23). -/
  | setStyle (style fabric length : Byte)
  /-- SET_COLOUR (colour, class) (R24). -/
  | setColour (colour cls : Byte)
  /-- SET_FABRIC (fabric class, F, base cure) (R25). -/
  | setFabric (fabric factor : Byte) (baseCure : Half)
  /-- READ_STYLE (style) (R23). -/
  | readStyle (style : Byte)
  /-- READ_COLOUR (colour) (R24). -/
  | readColour (colour : Byte)
  /-- READ_FABRIC (fabric class) (R25). -/
  | readFabric (fabric : Byte)
  /-- SPOIL_GARMENT (R38). -/
  | spoilGarment
  /-- READ_LAST_SPOIL (R39). -/
  | readLastSpoil
  /-- PROFILE_BEGIN (slot, W, height, format, window start column and row, C, R) (R50). -/
  | profileBegin (slot width height format startCol startRow cols rows : Byte)
  /-- PROFILE_DATA (length byte, data bytes) (R52, R168). -/
  | profileData (length : Byte) (data : List Byte)
  /-- PROFILE_END (R53). -/
  | profileEnd
  /-- PROFILE_FREE (slot) (R54). -/
  | profileFree (slot : Byte)
  /-- SET_WINDOW (slot, start column, start row, C, R) (R55). -/
  | setWindow (slot startCol startRow cols rows : Byte)
  /-- READ_PROFILE (slot) (R56). -/
  | readProfile (slot : Byte)
  /-- READ_CELLS (slot, canvas index, count) (R56). -/
  | readCells (slot : Byte) (index : Half) (count : Byte)
  /-- READ_STORE (block number, or FFFFh) (R56). -/
  | readStore (block : Half)
  /-- WRITE_RECIPE_FINE (bank, code, w, u, p) (R58). -/
  | writeRecipeFine (bank code w u p : Byte)
  /-- WRITE_RECIPE_COARSE (bank, code, w, u, p) (R58). -/
  | writeRecipeCoarse (bank code w u p : Byte)
  /-- DISCARD_PENDING (bank) (R60). -/
  | discardPending (bank : Byte)
  /-- READ_RECIPE (bank, code) (R57). -/
  | readRecipe (bank code : Byte)
  /-- READ_BANK (bank) (R57). -/
  | readBank (bank : Byte)
  /-- SET_ECONOMY (ON or OFF) (R66). -/
  | setEconomy (value : Byte)
  /-- SET_INK_CAP (I) (R66). -/
  | setInkCap (cap : Half)
  /-- SET_CURE_COEFFICIENTS (kW, kU) (R66). -/
  | setCureCoefficients (kW kU : Byte)
  /-- READ_SHEET_SETTINGS (R66). -/
  | readSheetSettings
  /-- SET_PLATEN_COUNT (P) (R78). -/
  | setPlatenCount (count : Byte)
  /-- SET_ORIGIN (o) (R79). -/
  | setOrigin (origin : Byte)
  /-- ASSIGN_STATION (link, kind, stop) (R82). -/
  | assignStation (link kind stop : Byte)
  /-- BLOCK_PLATEN (platen) (R81). -/
  | blockPlaten (platen : Byte)
  /-- UNBLOCK_PLATEN (platen) (R81). -/
  | unblockPlaten (platen : Byte)
  /-- SET_STATION_MODE (link, ENABLED or BYPASSED) (R83). -/
  | setStationMode (link mode : Byte)
  /-- SET_GATE_EXEMPT (link, ON or OFF) (R84). -/
  | setGateExempt (link value : Byte)
  /-- SET_DWELL_LIMIT (seconds) (R93). -/
  | setDwellLimit (seconds : Half)
  /-- SET_LAP_LIMIT (limit) (R95). -/
  | setLapLimit (limit : Byte)
  /-- READ_CAROUSEL (R96). -/
  | readCarousel
  /-- READ_STATIONS (R96). -/
  | readStations
  /-- SET_INK_TOLERANCE (T) (R118). -/
  | setInkTolerance (tolerance : Byte)
  /-- READ_INK_TOLERANCE (R118). -/
  | readInkTolerance
  /-- READ_LINK (link) (R104). -/
  | readLink (link : Byte)
  /-- SET_BELT_GEOMETRY (B, entry zone, H, X, segment count, four segment lengths, G) (R123, R178). -/
  | setBeltGeometry (belt entry heat exit segments seg0 seg1 seg2 seg3 gap : Byte)
  /-- SET_CURE_CURVE (length byte, data bytes: three to a point) (R125, R168). -/
  | setCureCurve (length : Byte) (data : List Byte)
  /-- SET_OVERTEMP_LIMIT (degrees) (R128). -/
  | setOvertempLimit (limit : Half)
  /-- SET_STALE_LIMIT (seconds) (R129). -/
  | setStaleLimit (seconds : Byte)
  /-- SET_STALL_LIMIT (seconds) (R136). -/
  | setStallLimit (seconds : Byte)
  /-- READ_TUNNEL (R137). -/
  | readTunnel
  /-- READ_CONFLICTS (R133). -/
  | readConflicts
  /-- READ_BINS (R143). -/
  | readBins
  /-- SEEK_ORDER (order number) (R172). -/
  | seekOrder (number : Bcd5)
  /-- SEEK_NEXT_ORDER (filter) (R172). -/
  | seekNextOrder (filter : Byte)
  /-- SEEK_LINE (index) (R172). -/
  | seekLine (index : Byte)
  /-- SEEK_GARMENT (ticket) (R173). -/
  | seekGarment (ticket : Bcd5)
  /-- SEEK_GARMENT_AT_PLATEN (platen) (R173). -/
  | seekGarmentAtPlaten (platen : Byte)
  /-- SEEK_ORDER_OF_GARMENT (R173). -/
  | seekOrderOfGarment
  /-- READ_ORDER (R172). -/
  | readOrder
  /-- READ_LINE (R172). -/
  | readLine
  /-- READ_GARMENT (R173). -/
  | readGarment
  /-- READ_STATE (R174). -/
  | readState
  /-- READ_BELT_LIST (position) (R175). -/
  | readBeltList (position : Byte)
  /-- READ_EXIT_LIST (position) (R175). -/
  | readExitList (position : Byte)
  /-- READ_RETURN_LIST (position) (R175). -/
  | readReturnList (position : Byte)
  /-- READ_IDENT (R176). -/
  | readIdent
  /-- BLANK_SCAN: payload blank key (R108). -/
  | blankScan (link : LinkNo) (payload : List Byte)
  /-- LOAD_DONE: payload ticket (R109). -/
  | loadDone (link : LinkNo) (payload : List Byte)
  /-- LOAD_SKIP: no payload (R110). -/
  | loadSkip (link : LinkNo) (payload : List Byte)
  /-- SHEET: no payload (R111). -/
  | sheet (link : LinkNo) (payload : List Byte)
  /-- DOSE_ROW: payload row (R112). -/
  | doseRow (link : LinkNo) (payload : List Byte)
  /-- DOSE_DONE: payload ticket, rows applied (R113). -/
  | doseDone (link : LinkNo) (payload : List Byte)
  /-- PRESS_START: no payload (R114). -/
  | pressStart (link : LinkNo) (payload : List Byte)
  /-- PRESS_DONE: payload ticket (R115). -/
  | pressDone (link : LinkNo) (payload : List Byte)
  /-- JOB_FETCH: no payload (R116). -/
  | jobFetch (link : LinkNo) (payload : List Byte)
  /-- PRINT_DONE: payload ticket, used ink ÷ 16 (R117). -/
  | printDone (link : LinkNo) (payload : List Byte)
  /-- PRINT_FAULT: payload ticket, fault code (R119). -/
  | printFault (link : LinkNo) (payload : List Byte)
  /-- UNLOAD_QUERY: no payload (R120). -/
  | unloadQuery (link : LinkNo) (payload : List Byte)
  /-- UNLOAD_DONE: payload ticket, action (R122). -/
  | unloadDone (link : LinkNo) (payload : List Byte)
  /-- TEMP_REPORT: payload temperatures (R127). -/
  | tempReport (link : LinkNo) (payload : List Byte)
  /-- PACK_SCAN: payload ticket (R144). -/
  | packScan (link : LinkNo) (payload : List Byte)
  /-- PACK_CONFIRM: payload ticket, action (R147). -/
  | packConfirm (link : LinkNo) (payload : List Byte)
  /-- RETURN_PLACED: payload ticket, mode (R152). -/
  | returnPlaced (link : LinkNo) (payload : List Byte)
  /-- REPLY_SENT: the last byte of a link's reply has been sent (R99). -/
  | replySent (link : LinkNo)
  deriving DecidableEq, Repr

/-- The requests a station frame can name (R182). -/
inductive Request where
  | blankScan | loadDone | loadSkip | sheet | doseRow | doseDone | pressStart | pressDone | jobFetch | printDone
  | printFault | unloadQuery | unloadDone | tempReport | packScan | packConfirm | returnPlaced
  deriving DecidableEq, Repr

end Sys2Proof
end

