-- ==== Sys2Proof/Decode.lean ====
section
/-! DEFINITION. From the wire to commands and back: host transactions (R167, R168, R181), station frames (R99, R101, R102,
R182), and the host's decoder of table words. -/

namespace Sys2Proof

/-! ## Fields of more than one byte: most significant byte first (R177) -/

/-- A two-byte field from its bytes (R177). -/
def halfOf (hi lo : Byte) : Half := BitVec.ofNat 16 (hi.toNat * 256 + lo.toNat)

/-- The bytes of a two-byte field (R177). -/
def halfBytes (v : Half) : List Byte := [BitVec.ofNat 8 (v.toNat / 256), BitVec.ofNat 8 v.toNat]

/-- A five-byte packed-decimal field from its bytes (R177). -/
def bcd5Of (b4 b3 b2 b1 b0 : Byte) : Bcd5 :=
  BitVec.ofNat 40
    ((((b4.toNat * 256 + b3.toNat) * 256 + b2.toNat) * 256 + b1.toNat) * 256 + b0.toNat)

/-- The bytes of a five-byte packed-decimal field (R177). -/
def bcd5Bytes (v : Bcd5) : List Byte :=
  [BitVec.ofNat 8 (v.toNat / 4294967296), BitVec.ofNat 8 (v.toNat / 16777216), BitVec.ofNat 8 (v.toNat / 65536),
    BitVec.ofNat 8 (v.toNat / 256), BitVec.ofNat 8 v.toNat]

/-! ## Host transactions -/

/-- PROFILE DATA takes a length byte of 1 to 64 (R168). -/
def profileDataLengthOk (len : Byte) : Bool := 1 ≤ len.toNat && len.toNat ≤ 64

/-- SET CURE CURVE takes a length byte that is a whole multiple of 3 (R168). -/
def cureCurveLengthOk (len : Byte) : Bool := len.toNat % 3 == 0

/-- A data-carrying command (R167, R168): a length byte out of range is taken at once, with no data; a transaction that
ends before its last data byte is dropped; the bytes after the last one are ignored. -/
def decodeDataCarrying (lengthOk : Byte → Bool) (build : Byte → List Byte → Instr) : List Byte → Instr
  | [] => .transactionDropped
  | len :: data =>
    if !lengthOk len then build len []
    else if data.length < len.toNat then .transactionDropped
    else build len (data.take len.toNat)

/-- The command of a host transaction, from the whole bytes clocked in while SEL is low (R167, R168, R181). Bytes after
the last parameter are ignored; too few drop the transaction; a byte that names no command is an unknown command. -/
def decodeTransaction : List Byte → Instr
  | [] => .transactionDropped
  | command :: params =>
    match command.toNat with
    | 0x01 => .start
    | 0x02 => .hold
    | 0x03 => .resume
    | 0x04 => .drain
    | 0x05 => .lineReset
    | 0x08 => match params with | p0 :: p1 :: p2 :: _ => .writeAttentionRequests p0 (halfOf p1 p2) | _ => .transactionDropped
    | 0x09 => match params with | p0 :: p1 :: p2 :: _ => .writeAttentionEnables p0 (halfOf p1 p2) | _ => .transactionDropped
    | 0x0A => match params with | p0 :: _ => .setMasterEnable p0 | _ => .transactionDropped
    | 0x0B => .readAttention
    | 0x0C => match params with | p0 :: p1 :: _ => .takeAttention (halfOf p0 p1) | _ => .transactionDropped
    | 0x10 => match params with | p0 :: p1 :: p2 :: p3 :: p4 :: p5 :: _ => .addOrder (bcd5Of p0 p1 p2 p3 p4) p5 | _ => .transactionDropped
    | 0x11 => match params with | p0 :: p1 :: p2 :: p3 :: p4 :: p5 :: p6 :: p7 :: p8 :: p9 :: _ => .addLine p0 p1 p2 p3 p4 p5 p6 p7 p8 p9 | _ => .transactionDropped
    | 0x12 => .deleteLine
    | 0x13 => .commit
    | 0x14 => match params with | p0 :: _ => .editLineQty p0 | _ => .transactionDropped
    | 0x15 => match params with | p0 :: p1 :: p2 :: p3 :: p4 :: p5 :: _ => .editLineArt p0 p1 p2 p3 p4 p5 | _ => .transactionDropped
    | 0x16 => match params with | p0 :: _ => .setPriority p0 | _ => .transactionDropped
    | 0x17 => .holdOrder
    | 0x18 => .releaseOrder
    | 0x19 => .cancelOrder
    | 0x1A => .retireOrder
    | 0x20 => match params with | p0 :: p1 :: p2 :: _ => .setStyle p0 p1 p2 | _ => .transactionDropped
    | 0x21 => match params with | p0 :: p1 :: _ => .setColour p0 p1 | _ => .transactionDropped
    | 0x22 => match params with | p0 :: p1 :: p2 :: p3 :: _ => .setFabric p0 p1 (halfOf p2 p3) | _ => .transactionDropped
    | 0x23 => match params with | p0 :: _ => .readStyle p0 | _ => .transactionDropped
    | 0x24 => match params with | p0 :: _ => .readColour p0 | _ => .transactionDropped
    | 0x25 => match params with | p0 :: _ => .readFabric p0 | _ => .transactionDropped
    | 0x26 => .spoilGarment
    | 0x27 => .readLastSpoil
    | 0x30 => match params with | p0 :: p1 :: p2 :: p3 :: p4 :: p5 :: p6 :: p7 :: _ => .profileBegin p0 p1 p2 p3 p4 p5 p6 p7 | _ => .transactionDropped
    | 0x31 => decodeDataCarrying profileDataLengthOk .profileData params
    | 0x32 => .profileEnd
    | 0x33 => match params with | p0 :: _ => .profileFree p0 | _ => .transactionDropped
    | 0x34 => match params with | p0 :: p1 :: p2 :: p3 :: p4 :: _ => .setWindow p0 p1 p2 p3 p4 | _ => .transactionDropped
    | 0x35 => match params with | p0 :: _ => .readProfile p0 | _ => .transactionDropped
    | 0x36 => match params with | p0 :: p1 :: p2 :: p3 :: _ => .readCells p0 (halfOf p1 p2) p3 | _ => .transactionDropped
    | 0x37 => match params with | p0 :: p1 :: _ => .readStore (halfOf p0 p1) | _ => .transactionDropped
    | 0x38 => match params with | p0 :: p1 :: p2 :: p3 :: p4 :: _ => .writeRecipeFine p0 p1 p2 p3 p4 | _ => .transactionDropped
    | 0x39 => match params with | p0 :: p1 :: p2 :: p3 :: p4 :: _ => .writeRecipeCoarse p0 p1 p2 p3 p4 | _ => .transactionDropped
    | 0x3A => match params with | p0 :: _ => .discardPending p0 | _ => .transactionDropped
    | 0x3B => match params with | p0 :: p1 :: _ => .readRecipe p0 p1 | _ => .transactionDropped
    | 0x3C => match params with | p0 :: _ => .readBank p0 | _ => .transactionDropped
    | 0x40 => match params with | p0 :: _ => .setEconomy p0 | _ => .transactionDropped
    | 0x41 => match params with | p0 :: p1 :: _ => .setInkCap (halfOf p0 p1) | _ => .transactionDropped
    | 0x42 => match params with | p0 :: p1 :: _ => .setCureCoefficients p0 p1 | _ => .transactionDropped
    | 0x43 => .readSheetSettings
    | 0x48 => match params with | p0 :: _ => .setPlatenCount p0 | _ => .transactionDropped
    | 0x49 => match params with | p0 :: _ => .setOrigin p0 | _ => .transactionDropped
    | 0x4A => match params with | p0 :: p1 :: p2 :: _ => .assignStation p0 p1 p2 | _ => .transactionDropped
    | 0x4B => match params with | p0 :: _ => .blockPlaten p0 | _ => .transactionDropped
    | 0x4C => match params with | p0 :: _ => .unblockPlaten p0 | _ => .transactionDropped
    | 0x4D => match params with | p0 :: p1 :: _ => .setStationMode p0 p1 | _ => .transactionDropped
    | 0x4E => match params with | p0 :: p1 :: _ => .setGateExempt p0 p1 | _ => .transactionDropped
    | 0x4F => match params with | p0 :: p1 :: _ => .setDwellLimit (halfOf p0 p1) | _ => .transactionDropped
    | 0x50 => match params with | p0 :: _ => .setLapLimit p0 | _ => .transactionDropped
    | 0x51 => .readCarousel
    | 0x52 => .readStations
    | 0x58 => match params with | p0 :: _ => .setInkTolerance p0 | _ => .transactionDropped
    | 0x59 => .readInkTolerance
    | 0x5A => match params with | p0 :: _ => .readLink p0 | _ => .transactionDropped
    | 0x60 => match params with | p0 :: p1 :: p2 :: p3 :: p4 :: p5 :: p6 :: p7 :: p8 :: p9 :: _ => .setBeltGeometry p0 p1 p2 p3 p4 p5 p6 p7 p8 p9 | _ => .transactionDropped
    | 0x61 => decodeDataCarrying cureCurveLengthOk .setCureCurve params
    | 0x62 => match params with | p0 :: p1 :: _ => .setOvertempLimit (halfOf p0 p1) | _ => .transactionDropped
    | 0x63 => match params with | p0 :: _ => .setStaleLimit p0 | _ => .transactionDropped
    | 0x64 => match params with | p0 :: _ => .setStallLimit p0 | _ => .transactionDropped
    | 0x65 => .readTunnel
    | 0x66 => .readConflicts
    | 0x68 => .readBins
    | 0x70 => match params with | p0 :: p1 :: p2 :: p3 :: p4 :: _ => .seekOrder (bcd5Of p0 p1 p2 p3 p4) | _ => .transactionDropped
    | 0x71 => match params with | p0 :: _ => .seekNextOrder p0 | _ => .transactionDropped
    | 0x72 => match params with | p0 :: _ => .seekLine p0 | _ => .transactionDropped
    | 0x73 => match params with | p0 :: p1 :: p2 :: p3 :: p4 :: _ => .seekGarment (bcd5Of p0 p1 p2 p3 p4) | _ => .transactionDropped
    | 0x74 => match params with | p0 :: _ => .seekGarmentAtPlaten p0 | _ => .transactionDropped
    | 0x75 => .seekOrderOfGarment
    | 0x76 => .readOrder
    | 0x77 => .readLine
    | 0x78 => .readGarment
    | 0x79 => .readState
    | 0x7A => match params with | p0 :: _ => .readBeltList p0 | _ => .transactionDropped
    | 0x7B => match params with | p0 :: _ => .readExitList p0 | _ => .transactionDropped
    | 0x7C => match params with | p0 :: _ => .readReturnList p0 | _ => .transactionDropped
    | 0x7D => .readIdent
    | _ => .unknownCommand command

/-- The bytes of a host command's transaction (R181); none for a row that is no host command. -/
def hostBytes : Instr → Option (List Byte)
  | .start => some [0x01]
  | .hold => some [0x02]
  | .resume => some [0x03]
  | .drain => some [0x04]
  | .lineReset => some [0x05]
  | .writeAttentionRequests p0 p1 => some (0x08 :: ([p0] ++ halfBytes p1))
  | .writeAttentionEnables p0 p1 => some (0x09 :: ([p0] ++ halfBytes p1))
  | .setMasterEnable p0 => some [0x0A, p0]
  | .readAttention => some [0x0B]
  | .takeAttention p0 => some (0x0C :: halfBytes p0)
  | .addOrder p0 p1 => some (0x10 :: (bcd5Bytes p0 ++ [p1]))
  | .addLine p0 p1 p2 p3 p4 p5 p6 p7 p8 p9 => some [0x11, p0, p1, p2, p3, p4, p5, p6, p7, p8, p9]
  | .deleteLine => some [0x12]
  | .commit => some [0x13]
  | .editLineQty p0 => some [0x14, p0]
  | .editLineArt p0 p1 p2 p3 p4 p5 => some [0x15, p0, p1, p2, p3, p4, p5]
  | .setPriority p0 => some [0x16, p0]
  | .holdOrder => some [0x17]
  | .releaseOrder => some [0x18]
  | .cancelOrder => some [0x19]
  | .retireOrder => some [0x1A]
  | .setStyle p0 p1 p2 => some [0x20, p0, p1, p2]
  | .setColour p0 p1 => some [0x21, p0, p1]
  | .setFabric p0 p1 p2 => some (0x22 :: ([p0] ++ [p1] ++ halfBytes p2))
  | .readStyle p0 => some [0x23, p0]
  | .readColour p0 => some [0x24, p0]
  | .readFabric p0 => some [0x25, p0]
  | .spoilGarment => some [0x26]
  | .readLastSpoil => some [0x27]
  | .profileBegin p0 p1 p2 p3 p4 p5 p6 p7 => some [0x30, p0, p1, p2, p3, p4, p5, p6, p7]
  | .profileData len data => some (0x31 :: len :: data)
  | .profileEnd => some [0x32]
  | .profileFree p0 => some [0x33, p0]
  | .setWindow p0 p1 p2 p3 p4 => some [0x34, p0, p1, p2, p3, p4]
  | .readProfile p0 => some [0x35, p0]
  | .readCells p0 p1 p2 => some (0x36 :: ([p0] ++ halfBytes p1 ++ [p2]))
  | .readStore p0 => some (0x37 :: halfBytes p0)
  | .writeRecipeFine p0 p1 p2 p3 p4 => some [0x38, p0, p1, p2, p3, p4]
  | .writeRecipeCoarse p0 p1 p2 p3 p4 => some [0x39, p0, p1, p2, p3, p4]
  | .discardPending p0 => some [0x3A, p0]
  | .readRecipe p0 p1 => some [0x3B, p0, p1]
  | .readBank p0 => some [0x3C, p0]
  | .setEconomy p0 => some [0x40, p0]
  | .setInkCap p0 => some (0x41 :: halfBytes p0)
  | .setCureCoefficients p0 p1 => some [0x42, p0, p1]
  | .readSheetSettings => some [0x43]
  | .setPlatenCount p0 => some [0x48, p0]
  | .setOrigin p0 => some [0x49, p0]
  | .assignStation p0 p1 p2 => some [0x4A, p0, p1, p2]
  | .blockPlaten p0 => some [0x4B, p0]
  | .unblockPlaten p0 => some [0x4C, p0]
  | .setStationMode p0 p1 => some [0x4D, p0, p1]
  | .setGateExempt p0 p1 => some [0x4E, p0, p1]
  | .setDwellLimit p0 => some (0x4F :: halfBytes p0)
  | .setLapLimit p0 => some [0x50, p0]
  | .readCarousel => some [0x51]
  | .readStations => some [0x52]
  | .setInkTolerance p0 => some [0x58, p0]
  | .readInkTolerance => some [0x59]
  | .readLink p0 => some [0x5A, p0]
  | .setBeltGeometry p0 p1 p2 p3 p4 p5 p6 p7 p8 p9 => some [0x60, p0, p1, p2, p3, p4, p5, p6, p7, p8, p9]
  | .setCureCurve len data => some (0x61 :: len :: data)
  | .setOvertempLimit p0 => some (0x62 :: halfBytes p0)
  | .setStaleLimit p0 => some [0x63, p0]
  | .setStallLimit p0 => some [0x64, p0]
  | .readTunnel => some [0x65]
  | .readConflicts => some [0x66]
  | .readBins => some [0x68]
  | .seekOrder p0 => some (0x70 :: bcd5Bytes p0)
  | .seekNextOrder p0 => some [0x71, p0]
  | .seekLine p0 => some [0x72, p0]
  | .seekGarment p0 => some (0x73 :: bcd5Bytes p0)
  | .seekGarmentAtPlaten p0 => some [0x74, p0]
  | .seekOrderOfGarment => some [0x75]
  | .readOrder => some [0x76]
  | .readLine => some [0x77]
  | .readGarment => some [0x78]
  | .readState => some [0x79]
  | .readBeltList p0 => some [0x7A, p0]
  | .readExitList p0 => some [0x7B, p0]
  | .readReturnList p0 => some [0x7C, p0]
  | .readIdent => some [0x7D]
  | .unknownCommand command => some [command]
  | _ => none

/-- The bytes that name a host command (R181). -/
def namesHostCommand (command : Byte) : Bool :=
  [0x01, 0x02, 0x03, 0x04, 0x05, 0x08, 0x09, 0x0A, 0x0B, 0x0C, 0x10, 0x11, 0x12, 0x13, 0x14, 0x15, 0x16, 0x17, 0x18, 0x19, 0x1A, 0x20, 0x21, 0x22, 0x23, 0x24, 0x25, 0x26, 0x27, 0x30, 0x31, 0x32, 0x33, 0x34, 0x35, 0x36, 0x37, 0x38, 0x39, 0x3A, 0x3B, 0x3C, 0x40, 0x41, 0x42, 0x43, 0x48, 0x49, 0x4A, 0x4B, 0x4C, 0x4D, 0x4E, 0x4F, 0x50, 0x51, 0x52, 0x58, 0x59, 0x5A, 0x60, 0x61, 0x62, 0x63, 0x64, 0x65, 0x66, 0x68, 0x70, 0x71, 0x72, 0x73, 0x74, 0x75, 0x76, 0x77, 0x78, 0x79, 0x7A, 0x7B, 0x7C, 0x7D].contains command.toNat

/-! ## Station frames -/

/-- The request code of a request (R182). -/
def Request.code : Request → Byte
  | .blankScan => 0x10
  | .loadDone => 0x11
  | .loadSkip => 0x12
  | .sheet => 0x20
  | .doseRow => 0x21
  | .doseDone => 0x22
  | .pressStart => 0x30
  | .pressDone => 0x31
  | .jobFetch => 0x40
  | .printDone => 0x41
  | .printFault => 0x42
  | .unloadQuery => 0x50
  | .unloadDone => 0x51
  | .tempReport => 0x60
  | .packScan => 0x70
  | .packConfirm => 0x71
  | .returnPlaced => 0x72

/-- The request a code names, if any (R182). -/
def Request.ofCode (code : Byte) : Option Request :=
  match code.toNat with
  | 0x10 => some .blankScan
  | 0x11 => some .loadDone
  | 0x12 => some .loadSkip
  | 0x20 => some .sheet
  | 0x21 => some .doseRow
  | 0x22 => some .doseDone
  | 0x30 => some .pressStart
  | 0x31 => some .pressDone
  | 0x40 => some .jobFetch
  | 0x41 => some .printDone
  | 0x42 => some .printFault
  | 0x50 => some .unloadQuery
  | 0x51 => some .unloadDone
  | 0x60 => some .tempReport
  | 0x70 => some .packScan
  | 0x71 => some .packConfirm
  | 0x72 => some .returnPlaced
  | _ => none

/-- The command of a request frame with the given payload. -/
def Request.command (link : LinkNo) (payload : List Byte) : Request → Instr
  | .blankScan => .blankScan link payload
  | .loadDone => .loadDone link payload
  | .loadSkip => .loadSkip link payload
  | .sheet => .sheet link payload
  | .doseRow => .doseRow link payload
  | .doseDone => .doseDone link payload
  | .pressStart => .pressStart link payload
  | .pressDone => .pressDone link payload
  | .jobFetch => .jobFetch link payload
  | .printDone => .printDone link payload
  | .printFault => .printFault link payload
  | .unloadQuery => .unloadQuery link payload
  | .unloadDone => .unloadDone link payload
  | .tempReport => .tempReport link payload
  | .packScan => .packScan link payload
  | .packConfirm => .packConfirm link payload
  | .returnPlaced => .returnPlaced link payload

/-- The start byte of a frame (R99). -/
def startByte : Byte := 0x7E

/-- The longest payload of a frame (R101). -/
def maxPayload : Nat := 40

/-- The sum of bytes modulo 256 (R101). -/
def byteSum (bytes : List Byte) : Byte := bytes.foldl (· + ·) 0

/-- The check byte that makes the sum of the given bytes and itself 0 modulo 256 (R101, R102). -/
def checkByte (bytes : List Byte) : Byte := - byteSum bytes

/-- A checked frame: the request its code names, or a frame whose code names none (R103). -/
def checkedFrame (link : LinkNo) (code : Byte) (payload : List Byte) : Instr :=
  match Request.ofCode code with
  | some rq => rq.command link payload
  | none => .unknownRequestCode link code payload

/-- COLLECTING (R99, R101): the bytes after the start byte. None while the frame is not complete. A length byte above 40
ends collection at once. The extent is set by the length byte, and 7Eh is data wherever it falls. -/
def collectFrame (link : LinkNo) : List Byte → Option Instr
  | code :: len :: rest =>
    if maxPayload < len.toNat then some (.badFrame link code)
    else if rest.length < len.toNat + 1 then none
    else if byteSum (code :: len :: rest.take (len.toNat + 1)) = 0 then
      some (checkedFrame link code (rest.take len.toNat))
    else some (.badFrame link code)
  | _ => none

/-- HUNTING (R99): every byte but the start byte is discarded. The answer is the first frame the bytes complete; the bytes
after it arrive in ANSWERING and are discarded (R102). -/
def decodeFrame (link : LinkNo) : List Byte → Option Instr
  | [] => none
  | b :: rest => if b = startByte then collectFrame link rest else decodeFrame link rest

/-- A request frame (R99, R101): start byte, code, payload length, payload, check byte. -/
def requestFrame (code : Byte) (payload : List Byte) : List Byte :=
  let body := code :: BitVec.ofNat 8 payload.length :: payload
  startByte :: body ++ [checkByte body]

/-- The link and the frame of a station request; none for a row that is no checked request frame (R182). -/
def frameBytes : Instr → Option (LinkNo × List Byte)
  | .blankScan link payload => some (link, requestFrame (Request.code .blankScan) payload)
  | .loadDone link payload => some (link, requestFrame (Request.code .loadDone) payload)
  | .loadSkip link payload => some (link, requestFrame (Request.code .loadSkip) payload)
  | .sheet link payload => some (link, requestFrame (Request.code .sheet) payload)
  | .doseRow link payload => some (link, requestFrame (Request.code .doseRow) payload)
  | .doseDone link payload => some (link, requestFrame (Request.code .doseDone) payload)
  | .pressStart link payload => some (link, requestFrame (Request.code .pressStart) payload)
  | .pressDone link payload => some (link, requestFrame (Request.code .pressDone) payload)
  | .jobFetch link payload => some (link, requestFrame (Request.code .jobFetch) payload)
  | .printDone link payload => some (link, requestFrame (Request.code .printDone) payload)
  | .printFault link payload => some (link, requestFrame (Request.code .printFault) payload)
  | .unloadQuery link payload => some (link, requestFrame (Request.code .unloadQuery) payload)
  | .unloadDone link payload => some (link, requestFrame (Request.code .unloadDone) payload)
  | .tempReport link payload => some (link, requestFrame (Request.code .tempReport) payload)
  | .packScan link payload => some (link, requestFrame (Request.code .packScan) payload)
  | .packConfirm link payload => some (link, requestFrame (Request.code .packConfirm) payload)
  | .returnPlaced link payload => some (link, requestFrame (Request.code .returnPlaced) payload)
  | .unknownRequestCode link code payload => some (link, requestFrame code payload)
  | _ => none

/-! ## Table words -/

/-- The command that a word spells by the bits of spec/opcode_table.json. The table gives no bits for any row, so no word
spells one. -/
def decodeTableWord (_nbits _w : Nat) : Option Instr := none

end Sys2Proof
end

