-- ==== Sys2Proof/Machine/State.lean ====
section
/-! DEFINITION. The state of the KG-316 as plain data, block by block, and the state after power-on. A field's default is
its value after power-on and the RESET pin, given with the rule that states it. -/

namespace Sys2Proof.Machine

/-! ## Line mode and order book -/

/-- The line mode (R157). -/
inductive LineMode where
  | setup | run | hold | drain
  deriving DecidableEq, Repr, Inhabited

/-- The state of an order (R1); `opened` is the reference's OPEN. -/
inductive OrderState where
  | draft | opened | held | cancelling | cancelled | complete
  deriving DecidableEq, Repr, Inhabited

/-- A blank key (R2). -/
structure BlankKey where
  style : Nat
  colour : Nat
  size : Nat
  deriving DecidableEq, Repr, Inhabited

/-- The three orientation flags of a line (R2, R76). -/
structure Orientation where
  exchange : Bool := false
  mirrorX : Bool := false
  mirrorY : Bool := false
  deriving DecidableEq, Repr, Inhabited

/-- The art settings of a line (R2). -/
structure ArtSettings where
  profile : Nat
  orient : Orientation
  mask : Code
  choke : Int
  x : Nat
  y : Nat
  deriving DecidableEq, Repr, Inhabited

/-- A line record (R2). -/
structure Line where
  key : BlankKey
  art : ArtSettings
  ordered : Nat
  allocated : Nat := 0
  finished : Nat := 0
  spoiled : Nat := 0
  deriving DecidableEq, Repr, Inhabited

/-- An order record (R1). Its admission position is its place in `OrderBook.admission`. -/
structure Order where
  number : Nat
  cls : Nat
  state : OrderState := .draft
  lines : List Line := []
  bin : Option Nat := none
  overflow : Bool := false
  deriving DecidableEq, Repr, Inhabited

/-- The order book (R1, R4, R5): the order records taken from the pool of 96, and the admission list, head first. -/
structure OrderBook where
  orders : List Order := []
  admission : List Nat := []
  deriving DecidableEq, Repr, Inhabited

/-! ## Garment table -/

/-- The four steps, as a set: a route, the steps required or the steps done (R26, R74). -/
structure StepSet where
  pretreat : Bool := false
  press : Bool := false
  white : Bool := false
  color : Bool := false
  deriving DecidableEq, Repr, Inhabited

/-- The inspect reasons, as a set (R26). -/
structure InspectSet where
  partialPretreat : Bool := false
  inkDeviation : Bool := false
  scorchRisk : Bool := false
  forcedTransfer : Bool := false
  beltOverlap : Bool := false
  deriving DecidableEq, Repr, Inhabited

/-- The place of a garment (R26). ON_BELT carries the tail position, which is present in that place alone. -/
inductive Place where
  | matched (platen : Nat)
  | onPlaten (platen : Nat)
  | onBelt (tail : Nat)
  | atExit
  | returning
  deriving DecidableEq, Repr, Inhabited

/-- A spoil reason (R26, R37). -/
inductive SpoilReason where
  | printFault | missedStep | host | undercureLimit | unloadDiscard | loadAbandoned
  deriving DecidableEq, Repr, Inhabited

/-- The disposition of a garment (R26). SPOILED carries the spoil reason, which is present in that disposition alone. -/
inductive Disposition where
  | active
  | spoiled (reason : SpoilReason)
  | restock
  deriving DecidableEq, Repr, Inhabited

/-- The sheet figures of a garment (R75): they stay for the life of the garment. -/
structure SheetFigures where
  rows : Nat
  cols : Nat
  orient : Orientation
  profile : Nat
  x : Nat
  y : Nat
  wsum : Nat
  usum : Nat
  dsum : Nat
  capped : Nat
  passes : Nat
  cureDemand : Nat
  deriving DecidableEq, Repr, Inhabited

/-- The sheet claim of a garment (R75): the frozen inputs of its dose rows. -/
structure Claim where
  slot : Nat
  bank : Fin 4
  startCol : Nat
  startRow : Nat
  cols : Nat
  rows : Nat
  mask : Code
  choke : Int
  factor : Nat
  deriving DecidableEq, Repr, Inhabited

/-- A garment record (R26). `seq` is the ticket's sequence; the check digit is computed from it (R29). The sheet released
flag is set exactly when `claim` is none. -/
structure Garment where
  seq : Nat
  key : BlankKey
  bound : Option (Nat × Nat)
  place : Place
  disposition : Disposition := .active
  required : StepSet
  done : StepSet := {}
  laps : Nat := 0
  recures : Nat := 0
  inspect : InspectSet := {}
  figures : SheetFigures
  claim : Option Claim
  cure : Nat := 0
  length : Nat
  deriving DecidableEq, Repr, Inhabited

/-- A style table entry (R23). -/
structure StyleEntry where
  fabric : Nat := 0
  length : Nat := 8
  deriving DecidableEq, Repr, Inhabited

/-- A colour class (R24). -/
inductive ColourClass where
  | light | mid | dark | heather
  deriving DecidableEq, Repr, Inhabited

/-- A fabric table entry (R25). -/
structure FabricEntry where
  factor : Nat := 128
  baseCure : Nat := 1000
  deriving DecidableEq, Repr, Inhabited

/-- The last-spoil record (R39). -/
structure LastSpoil where
  ticket : Option Nat := none
  order : Option Nat := none
  line : Option Nat := none
  reason : Option SpoilReason := none
  count : Nat := 0
  deriving DecidableEq, Repr, Inhabited

/-- The garment table (R23 to R28, R39). `garments` holds the live garments; the pool has 64 records (R27). -/
structure GarmentTable where
  garments : List Garment := []
  generator : Nat := 1
  styles : Vector StyleEntry 256 := .replicate 256 {}
  colours : Vector ColourClass 256 := .replicate 256 .light
  fabrics : Vector FabricEntry 8 := .replicate 8 {}
  lastSpoil : LastSpoil := {}
  deriving DecidableEq, Repr, Inhabited

/-! ## Artwork store, recipe table, sheet engine -/

/-- The state of a profile slot (R48). -/
inductive ProfileState where
  | empty | loading | ready
  deriving DecidableEq, Repr, Inhabited

/-- The cell format of a profile (R48, R52). -/
inductive CellFormat where
  | fourBit | sixBit
  deriving DecidableEq, Repr, Inhabited

/-- A profile record (R48). -/
structure Profile where
  state : ProfileState := .empty
  width : Nat := 0
  height : Nat := 0
  format : CellFormat := .fourBit
  startCol : Nat := 0
  startRow : Nat := 0
  cols : Nat := 0
  rows : Nat := 0
  chain : List Nat := []
  fill : Nat := 0
  useCount : Nat := 0
  deriving DecidableEq, Repr, Inhabited

/-- The artwork store (R47, R48). A map entry is none where the block is free. -/
structure ArtworkStore where
  cells : Vector (Vector Code 64) 384 := .replicate 384 (.replicate 64 0)
  blockMap : Vector (Option Nat) 384 := .replicate 384 none
  slots : Vector Profile 48 := .replicate 48 {}
  deriving DecidableEq, Repr, Inhabited

/-- The three values of a recipe entry (R57). -/
structure Recipe where
  w : Nat := 0
  u : Nat := 0
  p : Nat := 0
  deriving DecidableEq, Repr, Inhabited

/-- A recipe entry in its two copies (R57). The pending mark is set exactly when `pending` is some. -/
structure RecipeEntry where
  live : Recipe := {}
  pending : Option Recipe := none
  deriving DecidableEq, Repr, Inhabited

/-- A recipe bank (R57). -/
structure Bank where
  entries : Vector RecipeEntry 64 := .replicate 64 {}
  useCount : Nat := 0
  deriving DecidableEq, Repr, Inhabited

/-- The recipe table (R57). -/
structure RecipeTable where
  banks : Vector Bank 4 := .replicate 4 {}
  deriving DecidableEq, Repr, Inhabited

/-- The running sums of the sheet engine (R65, R71). -/
structure RunningSums where
  wsum : Nat := 0
  usum : Nat := 0
  dsum : Nat := 0
  capped : Nat := 0
  deriving DecidableEq, Repr, Inhabited

/-- The sheet engine: its running sums (R65) and the global sheet settings (R66). -/
structure SheetEngine where
  sums : RunningSums := {}
  economy : Bool := false
  inkCap : Nat := 510
  kW : Nat := 64
  kU : Nat := 32
  deriving DecidableEq, Repr, Inhabited

/-! ## Carousel tracker and station links -/

/-- A platen table entry (R80, R81). -/
structure PlatenEntry where
  garment : Option Nat := none
  blocked : Bool := false
  deriving DecidableEq, Repr, Inhabited

/-- The service state of a stop (R85). -/
inductive Service where
  | none | due | inService | done | missed
  deriving DecidableEq, Repr, Inhabited

/-- A stop: its service state (R85) and its void marker (R107). -/
structure Stop where
  service : Service := .none
  void : Option Nat := Option.none
  deriving DecidableEq, Repr, Inhabited

/-- The cause of a DISCARD instruction (R120). -/
inductive DiscardCause where
  | disposition | lapLimit
  deriving DecidableEq, Repr, Inhabited

/-- An UNLOAD instruction (R120). -/
inductive UnloadInstruction where
  | empty
  | discard (cause : DiscardCause)
  | recirculate
  | transfer
  | wait
  deriving DecidableEq, Repr, Inhabited

/-- The carousel tracker (R78 to R95). Entries of `platens` and `stops` at or above the platen count stand for nothing. -/
structure Carousel where
  platenCount : Nat := 12
  origin : Nat := 0
  platens : Vector PlatenEntry 16 := .replicate 16 {}
  stops : Vector Stop 16 := .replicate 16 {}
  unloadRecord : Option UnloadInstruction := none
  dwell : Nat := 0
  dwellLimit : Nat := 60
  late : Bool := false
  lapLimit : Nat := 1
  deriving DecidableEq, Repr, Inhabited

/-- The kind of station a link serves (R82). -/
inductive StationKind where
  | load | pretreat | press | printW | printC | unload | tunnel | pack | unassigned
  deriving DecidableEq, Repr, Inhabited

/-- The receiver of a link (R99). COLLECTING carries the milliseconds since the last byte (R100); the bytes of a frame are
collected inside the row that completes it. ANSWERING carries the reply frame being sent (R102). -/
inductive Receiver where
  | hunting
  | collecting (gap : Nat)
  | answering (reply : List Byte)
  deriving DecidableEq, Repr, Inhabited

/-- The reply codes of the station links (R180). -/
inductive ReplyCode where
  | ok | badFrame | offline | unassigned | bypassed | wrongStation | length | held | draining | badTicket
  | mismatch | late | void | notDue | notInService | range | blocked | occupied | poolFull | stray
  | unknown | onCarousel | returnPending | notPresented | wrongAction | changed | notReturning | wait
  deriving DecidableEq, Repr, Inhabited

/-- A station link: its assignment (R82), its receiver (R99) and its link record (R104). -/
structure Link where
  kind : StationKind := .unassigned
  stop : Nat := 0
  bypassed : Bool := false
  exempt : Bool := false
  receiver : Receiver := .hunting
  lastRequest : Option Byte := none
  lastReply : Option ReplyCode := none
  lastFault : Option (Nat × Byte) := none
  deriving DecidableEq, Repr, Inhabited

/-- The station links SL0 to SL7 (R82, R99, R104) and the ink tolerance (R118). -/
structure StationLinks where
  links : Vector Link 8 := .replicate 8 {}
  inkTolerance : Nat := 15
  deriving DecidableEq, Repr, Inhabited

/-! ## Tunnel tracker and pack unit -/

/-- The belt geometry record (R123). -/
structure BeltGeometry where
  isSet : Bool := false
  belt : Nat := 0
  entry : Nat := 0
  heat : Nat := 0
  exit : Nat := 0
  segments : Nat := 0
  lengths : Vector Nat 4 := .replicate 4 0
  gap : Nat := 0
  deriving DecidableEq, Repr, Inhabited

/-- A point of the cure curve (R125). -/
structure CurvePoint where
  temp : Nat
  rate : Nat
  deriving DecidableEq, Repr, Inhabited

/-- The conflict set (R133). -/
structure ConflictSet where
  entryOverlap : Bool := false
  returnOverlap : Bool := false
  deriving DecidableEq, Repr, Inhabited

/-- The tunnel tracker (R123 to R136). A stopped timer is none. -/
structure Tunnel where
  geometry : BeltGeometry := {}
  curve : List CurvePoint := []
  temps : Vector Nat 4 := .replicate 4 0
  rates : Vector Nat 4 := .replicate 4 0
  overtempLimit : Nat := 220
  stale : Option Nat := none
  staleMarker : Bool := false
  staleLimit : Nat := 5
  stall : Option Nat := none
  stallMarker : Bool := false
  stallLimit : Nat := 20
  belt : List Nat := []
  conflicts : ConflictSet := {}
  deriving DecidableEq, Repr, Inhabited

/-- A verdict or a pack action (R145, R147, R180). ACCEPT and SPOIL are actions alone, INSPECT a verdict alone. -/
inductive Verdict where
  | single | ship | pack | overflow | accept | spoil | reject | recure | inspect
  deriving DecidableEq, Repr, Inhabited

/-- The cause of a REJECT verdict (R145). -/
inductive RejectCause where
  | disposition | noOrder | cancelled | undercureLimit
  deriving DecidableEq, Repr, Inhabited

/-- The presented garment (R142). -/
structure Presented where
  seq : Nat
  verdict : Verdict
  cause : Option RejectCause := none
  bin : Option Nat := none
  deriving DecidableEq, Repr, Inhabited

/-- What a held bin entry names: its order and the count of garments laid in it (R143). -/
structure BinHold where
  order : Nat
  count : Nat := 0
  deriving DecidableEq, Repr, Inhabited

/-- The pack unit (R140 to R143). A free bin entry is none; its count is 0. -/
structure PackUnit where
  exitList : List Nat := []
  returnList : List Nat := []
  presented : Option Presented := none
  bins : Vector (Option BinHold) 32 := .replicate 32 none
  deriving DecidableEq, Repr, Inhabited

/-! ## Attention unit and host link -/

/-- The attention unit (R163, R164). Bit n is flag number n. -/
structure AttentionUnit where
  requests : BitVec 16 := 0
  enables : BitVec 16 := 0
  master : Bool := false
  deriving DecidableEq, Repr, Inhabited

/-- The status codes of the host link (R169, R180). -/
inductive Status where
  | ok | unknown | length | mode | range | notFound | noCursor | existing | full | busy | state | config
  deriving DecidableEq, Repr, Inhabited

/-- What the host port drives for the last command taken (R167): the bytes clocked in when it was taken, its status and
its reply bytes. -/
structure HostAnswer where
  bytesIn : Nat
  status : Status
  reply : List Byte
  deriving DecidableEq, Repr, Inhabited

/-- The host link: the three cursors (R171) and the answer of the last command taken (R167). -/
structure HostLink where
  orderCursor : Option Nat := none
  lineCursor : Option Nat := none
  garmentCursor : Option Nat := none
  answer : Option HostAnswer := none
  deriving DecidableEq, Repr, Inhabited

/-! ## The whole machine -/

/-- The state of the KG-316. `choices` and `pending` are the model's own: the count of open choices taken (log entry 3)
and the queue of commands that are waiting, first in first out (log entry 1). -/
structure State where
  mode : LineMode := .setup
  timebase : Nat := 0
  book : OrderBook := {}
  garmentTable : GarmentTable := {}
  art : ArtworkStore := {}
  recipes : RecipeTable := {}
  sheet : SheetEngine := {}
  carousel : Carousel := {}
  station : StationLinks := {}
  tunnel : Tunnel := {}
  pack : PackUnit := {}
  attention : AttentionUnit := {}
  host : HostLink := {}
  choices : Nat := 0
  pending : List Instr := []
  deriving DecidableEq, Repr, Inhabited

/-- The reasons a step can stop with a fault: none. The reference answers every command in every state, so no meaning
faults and the type has no constructor. -/
inductive Fault where
  deriving DecidableEq, Repr

/-- The reasons a step can be refused. -/
inductive Refusal where
  /-- Raised by an arm of `exec` for a row that has no meaning yet; safe, since the machine stops. No arm raises it. -/
  | notModelled (mnemonic : String)
  deriving DecidableEq, Repr

/-- The outcome of one step. -/
abbrev Out := Host.Outcome State Fault Refusal

/-- The machine after power-on and after the RESET pin (R21, R45, R63, R65, R66, R97, R99, R104, R107, R118, R121, R138,
R156, R157, R162 to R165, R168, R171): every field at its default. -/
def State.reset : State := {}

end Sys2Proof.Machine
end

