-- ==== Sys2Proof/Machine/Operands.lean ====
section
/-! DEFINITION. Operand forms: the fields of commands, requests and replies in the coding of the wire (R177 to R180). -/

namespace Sys2Proof.Machine

/-! ## Binary fields -/

/-- A one-byte binary field (R177). -/
def u8 (n : Nat) : Byte := BitVec.ofNat 8 n

/-- A two-byte binary field, most significant byte first (R177). -/
def u16 (n : Nat) : List Byte := [u8 (n / 256), u8 n]

/-- A three-byte binary field (R177). -/
def u24 (n : Nat) : List Byte := [u8 (n / 65536), u8 (n / 256), u8 n]

/-- A four-byte binary field (R177). -/
def u32 (n : Nat) : List Byte := [u8 (n / 16777216), u8 (n / 65536), u8 (n / 256), u8 n]

/-- The byte of a one-byte field that is none or absent (R179). -/
def absentByte : Byte := 0xFF

/-- A one-byte field that may be none or absent (R179). -/
def u8OrNone : Option Nat → Byte
  | some n => u8 n
  | none => absentByte

/-- A flag or a level: 00h clear or low, 01h set or high (R178). -/
def flagByte (b : Bool) : Byte := if b then 1 else 0

/-- A two-valued code: OFF, CLEAR, ENABLED or REQUEST is 00h, ON, SET, BYPASSED or LAID is 01h; any other byte names no
value (R178). -/
def twoValued (b : Byte) : Option Bool :=
  if b = 0 then some false else if b = 1 then some true else none

/-- A byte read in two's complement: the choke (R177, R178). -/
def signedByte (b : Byte) : Int := b.toInt

/-- A signed value of -128 to 127 as a byte (R177). -/
def chokeByte (k : Int) : Byte := BitVec.ofInt 8 k

/-! ## Packed decimal (R177, R178) -/

/-- The decimal value of the lowest `n` half-bytes of `v`; none if one of them is above 9. -/
def bcdValue : Nat → Nat → Option Nat
  | 0, _ => some 0
  | n + 1, v =>
    if v % 16 ≤ 9 then (bcdValue n (v / 16)).map (fun hi => hi * 10 + v % 16) else none

/-- The number whose lowest `n` half-bytes are the last `n` decimal digits of `v`. -/
def toBcd : Nat → Nat → Nat
  | 0, _ => 0
  | n + 1, v => toBcd n (v / 10) * 16 + v % 10

/-- An order number field: ten decimal digits; none where a half-byte is above 9 (R178). -/
def orderNumber? (v : Bcd5) : Option Nat := bcdValue 10 v.toNat

/-- The bytes of an order number; zeros when none or absent (R177, R179). -/
def orderNumberBytes : Option Nat → List Byte
  | some n => bcd5Bytes (BitVec.ofNat 40 (toBcd 10 n))
  | none => List.replicate 5 0

/-- The sum of the eight digits of a sequence weighted 3, 1, 3, 1, ... from the right (R29). -/
def weightedSum : Nat → Nat → Nat
  | 0, _ => 0
  | n + 1, v => v % 10 * 3 + v / 10 % 10 + weightedSum n (v / 100)

/-- The check digit of a sequence value (R29). -/
def checkDigit (seq : Nat) : Nat := (10 - weightedSum 4 seq % 10) % 10

/-- The nine-digit ticket of a sequence value (R28, R29). -/
def ticketNumber (seq : Nat) : Nat := seq * 10 + checkDigit seq

/-- The sequence of a ticket field. The first half-byte is not read; none where a digit is not decimal or the ninth is not
the check digit of the first eight (R29, R178). -/
def ticketSeq? (v : Bcd5) : Option Nat :=
  match bcdValue 9 v.toNat with
  | some n => if n % 10 = checkDigit (n / 10) then some (n / 10) else none
  | none => none

/-- The bytes of a ticket; zeros when none (R177, R179). -/
def ticketBytes : Option Nat → List Byte
  | some seq => bcd5Bytes (BitVec.ofNat 40 (toBcd 9 (ticketNumber seq)))
  | none => List.replicate 5 0

/-- An item count or total: two packed-decimal digits (R177). -/
def itemByte (n : Nat) : Byte := u8 (toBcd 2 n)

/-- The ticket generator value: eight packed-decimal digits (R177). -/
def generatorBytes (seq : Nat) : List Byte := u32 (toBcd 8 seq)

/-! ## Sets of flags in a byte (R177) -/

/-- An orientation byte: bit 0 EXCHANGE, bit 1 MIRROR_X, bit 2 MIRROR_Y; bits 3 to 7 are not read (R178). -/
def orientationOf (b : Byte) : Orientation :=
  { exchange := b.getLsbD 0, mirrorX := b.getLsbD 1, mirrorY := b.getLsbD 2 }

/-- The byte of a set given bit by bit from bit 0; bits not assigned are 0 (R179). -/
def bitsByte (bits : List Bool) : Byte :=
  u8 (bits.foldr (fun b n => 2 * n + b.toNat) 0)

/-- The orientation byte of the flags (R177). -/
def Orientation.byte (o : Orientation) : Byte := bitsByte [o.exchange, o.mirrorX, o.mirrorY]

/-- The byte of a step set (R177). -/
def StepSet.byte (t : StepSet) : Byte := bitsByte [t.pretreat, t.press, t.white, t.color]

/-- The byte of the inspect reasons (R177). -/
def InspectSet.byte (t : InspectSet) : Byte :=
  bitsByte [t.partialPretreat, t.inkDeviation, t.scorchRisk, t.forcedTransfer, t.beltOverlap]

/-- The byte of the conflict set (R177). -/
def ConflictSet.byte (t : ConflictSet) : Byte := bitsByte [t.entryOverlap, t.returnOverlap]

/-! ## Enumerated codes (R180): coded from 0 in the order of the table -/

/-- Code of a line mode (R180). -/
def LineMode.byte : LineMode → Byte
  | .setup => 0 | .run => 1 | .hold => 2 | .drain => 3

/-- Code of an order state (R180). -/
def OrderState.byte : OrderState → Byte
  | .draft => 0 | .opened => 1 | .held => 2 | .cancelling => 3 | .cancelled => 4 | .complete => 5

/-- A SEEK NEXT ORDER filter (R172, R180): the test an order's state must pass; none where the code names no filter. -/
def seekFilter? (b : Byte) : Option (OrderState → Bool) :=
  match b.toNat with
  | 0 => some (fun _ => true)
  | 1 => some (· == .opened)
  | 2 => some (· == .held)
  | 3 => some (· == .cancelling)
  | 4 => some (· == .cancelled)
  | 5 => some (· == .complete)
  | _ => none

/-- Code of a garment place (R180). -/
def Place.byte : Place → Byte
  | .matched _ => 0 | .onPlaten _ => 1 | .onBelt _ => 2 | .atExit => 3 | .returning => 4

/-- The platen of a garment that is MATCHED or ON_PLATEN (R80, R183). -/
def Place.platen? : Place → Option Nat
  | .matched p => some p
  | .onPlaten p => some p
  | .onBelt _ => none
  | .atExit => none
  | .returning => none

/-- The tail position, present in ON_BELT alone (R26). -/
def Place.tail? : Place → Option Nat
  | .matched _ => none
  | .onPlaten _ => none
  | .onBelt t => some t
  | .atExit => none
  | .returning => none

/-- Code of a disposition (R180). -/
def Disposition.byte : Disposition → Byte
  | .active => 0 | .spoiled _ => 1 | .restock => 2

/-- The spoil reason, present in SPOILED alone (R26). -/
def Disposition.reason? : Disposition → Option SpoilReason
  | .active => none
  | .spoiled r => some r
  | .restock => none

/-- Code of a spoil reason (R180). -/
def SpoilReason.code : SpoilReason → Nat
  | .printFault => 0 | .missedStep => 1 | .host => 2 | .undercureLimit => 3 | .unloadDiscard => 4 | .loadAbandoned => 5

/-- Code of a colour class (R180). -/
def ColourClass.byte : ColourClass → Byte
  | .light => 0 | .mid => 1 | .dark => 2 | .heather => 3

/-- The colour class a code names (R24, R180). -/
def colourClass? (b : Byte) : Option ColourClass :=
  match b.toNat with
  | 0 => some .light | 1 => some .mid | 2 => some .dark | 3 => some .heather | _ => none

/-- Code of a cell format (R180). -/
def CellFormat.byte : CellFormat → Byte
  | .fourBit => 0 | .sixBit => 1

/-- The cell format a code names (R50, R180). -/
def cellFormat? (b : Byte) : Option CellFormat :=
  match b.toNat with
  | 0 => some .fourBit | 1 => some .sixBit | _ => none

/-- Code of a profile state (R180). -/
def ProfileState.byte : ProfileState → Byte
  | .empty => 0 | .loading => 1 | .ready => 2

/-- Code of a station kind (R180). -/
def StationKind.byte : StationKind → Byte
  | .load => 0 | .pretreat => 1 | .press => 2 | .printW => 3 | .printC => 4 | .unload => 5 | .tunnel => 6 | .pack => 7
  | .unassigned => 8

/-- The station kind a code names (R82, R180). -/
def stationKind? (b : Byte) : Option StationKind :=
  match b.toNat with
  | 0 => some .load | 1 => some .pretreat | 2 => some .press | 3 => some .printW | 4 => some .printC | 5 => some .unload
  | 6 => some .tunnel | 7 => some .pack | 8 => some .unassigned | _ => none

/-- The carousel kinds (R82). -/
def StationKind.isCarousel : StationKind → Bool
  | .load => true | .pretreat => true | .press => true | .printW => true | .printC => true | .unload => true
  | .tunnel => false | .pack => false | .unassigned => false

/-- Code of a service state (R180). -/
def Service.byte : Service → Byte
  | .none => 0 | .due => 1 | .inService => 2 | .done => 3 | .missed => 4

/-- Code of an UNLOAD instruction (R180). -/
def UnloadInstruction.byte : UnloadInstruction → Byte
  | .empty => 0 | .discard _ => 1 | .recirculate => 2 | .transfer => 3 | .wait => 4

/-- The discard cause byte of an UNLOAD instruction; FFh where there is none (R179, R180). -/
def UnloadInstruction.causeByte : UnloadInstruction → Byte
  | .empty => absentByte
  | .discard .disposition => 0
  | .discard .lapLimit => 1
  | .recirculate => absentByte
  | .transfer => absentByte
  | .wait => absentByte

/-- The UNLOAD action of a report (R122). -/
inductive UnloadAction where
  | transferred | discarded | left
  deriving DecidableEq, Repr

/-- The UNLOAD action a code names (R122, R180). -/
def unloadAction? (b : Byte) : Option UnloadAction :=
  match b.toNat with
  | 0 => some .transferred | 1 => some .discarded | 2 => some .left | _ => none

/-- Code of a verdict (R180). -/
def Verdict.byte : Verdict → Byte
  | .single => 0 | .ship => 1 | .pack => 2 | .overflow => 3 | .accept => 4 | .spoil => 5 | .reject => 6 | .recure => 7
  | .inspect => 8

/-- The pack action a code names (R147, R180); INSPECT names no action. -/
def packAction? (b : Byte) : Option Verdict :=
  match b.toNat with
  | 0 => some .single | 1 => some .ship | 2 => some .pack | 3 => some .overflow | 4 => some .accept | 5 => some .spoil
  | 6 => some .reject | 7 => some .recure | _ => none

/-- Code of a reject cause (R180). -/
def RejectCause.code : RejectCause → Nat
  | .disposition => 0 | .noOrder => 1 | .cancelled => 2 | .undercureLimit => 3

/-- Code of a host status (R180). -/
def Status.byte : Status → Byte
  | .ok => 0x00 | .unknown => 0x01 | .length => 0x02 | .mode => 0x03 | .range => 0x04 | .notFound => 0x05
  | .noCursor => 0x06 | .existing => 0x07 | .full => 0x08 | .busy => 0x09 | .state => 0x0A | .config => 0x0B

/-- Code of a station reply (R180). -/
def ReplyCode.byte : ReplyCode → Byte
  | .ok => 0x00 | .badFrame => 0x01 | .offline => 0x02 | .unassigned => 0x03 | .bypassed => 0x04 | .wrongStation => 0x05
  | .length => 0x06 | .held => 0x07 | .draining => 0x08 | .badTicket => 0x09 | .mismatch => 0x0A | .late => 0x0B
  | .void => 0x0C | .notDue => 0x0D | .notInService => 0x0E | .range => 0x0F | .blocked => 0x10 | .occupied => 0x11
  | .poolFull => 0x12 | .stray => 0x13 | .unknown => 0x14 | .onCarousel => 0x15 | .returnPending => 0x16
  | .notPresented => 0x17 | .wrongAction => 0x18 | .changed => 0x19 | .notReturning => 0x1A | .wait => 0x1B

/-! ## Payloads of station requests (R182) -/

/-- The ticket field at the head of a payload (R182). -/
def payloadTicket : List Byte → Option Nat
  | b4 :: b3 :: b2 :: b1 :: b0 :: _ => ticketSeq? (bcd5Of b4 b3 b2 b1 b0)
  | _ => none

/-- The byte of a payload at position `i`. -/
def payloadByte (payload : List Byte) (i : Nat) : Byte := payload.getD i 0

/-- A two-byte field of a payload at position `i`. -/
def payloadHalf (payload : List Byte) (i : Nat) : Nat :=
  (payloadByte payload i).toNat * 256 + (payloadByte payload (i + 1)).toNat

/-- The reply frame (R102): start byte, request code, reply code, payload length, payload, check byte. -/
def replyFrame (code : Byte) (reply : ReplyCode) (payload : List Byte) : List Byte :=
  let body := code :: reply.byte :: u8 payload.length :: payload
  startByte :: body ++ [checkByte body]

end Sys2Proof.Machine
end

