-- ==== Sys2Proof/Machine/Records.lean ====
section
/-! DEFINITION. Finding and changing one record: garments, orders, lines, slots, banks, platens, stops and links. -/

namespace Sys2Proof.Machine

/-! ## Numbers of records in the pools (R4, R27) -/

/-- Garment records in the pool (R27). -/
def garmentPoolSize : Nat := 64

/-- Order records in the pool (R4). -/
def orderPoolSize : Nat := 96

/-- Line records in the pool (R4). -/
def linePoolSize : Nat := 384

/-- Lines an order can have (R1, R8). -/
def maxLines : Nat := 16

namespace State

/-! ## Blocks -/

/-- Change the order book alone. -/
def onBook (f : OrderBook → OrderBook) (s : State) : State := { s with book := f s.book }

/-- Change the garment table alone. -/
def onTable (f : GarmentTable → GarmentTable) (s : State) : State := { s with garmentTable := f s.garmentTable }

/-- Change the artwork store alone. -/
def onArt (f : ArtworkStore → ArtworkStore) (s : State) : State := { s with art := f s.art }

/-- Change the recipe table alone. -/
def onRecipes (f : RecipeTable → RecipeTable) (s : State) : State := { s with recipes := f s.recipes }

/-- Change the sheet engine alone. -/
def onSheet (f : SheetEngine → SheetEngine) (s : State) : State := { s with sheet := f s.sheet }

/-- Change the carousel tracker alone. -/
def onCarousel (f : Carousel → Carousel) (s : State) : State := { s with carousel := f s.carousel }

/-- Change the station links alone. -/
def onStation (f : StationLinks → StationLinks) (s : State) : State := { s with station := f s.station }

/-- Change the tunnel tracker alone. -/
def onTunnel (f : Tunnel → Tunnel) (s : State) : State := { s with tunnel := f s.tunnel }

/-- Change the pack unit alone. -/
def onPack (f : PackUnit → PackUnit) (s : State) : State := { s with pack := f s.pack }

/-- Change the attention unit alone. -/
def onAttention (f : AttentionUnit → AttentionUnit) (s : State) : State := { s with attention := f s.attention }

/-- Change the host link alone. -/
def onHost (f : HostLink → HostLink) (s : State) : State := { s with host := f s.host }

/-- Change the line mode alone. -/
def setMode (m : LineMode) (s : State) : State := { s with mode := m }

/-! ## Garments -/

/-- The live garments (R26). -/
def garments (s : State) : List Garment := s.garmentTable.garments

/-- The garment pool's free count (R27). -/
def freeGarments (s : State) : Nat := garmentPoolSize - s.garments.length

/-- The live garment holding a ticket, found by its sequence (R27, R29). -/
def garment? (s : State) (seq : Nat) : Option Garment := s.garments.find? (·.seq == seq)

/-- Change the live garment with the given sequence. -/
def modGarment (seq : Nat) (f : Garment → Garment) (s : State) : State :=
  s.onTable fun t => { t with garments := t.garments.map fun g => if g.seq = seq then f g else g }

/-- Take a garment record from the pool (R27). -/
def addGarment (g : Garment) (s : State) : State :=
  s.onTable fun t => { t with garments := t.garments ++ [g] }

/-- Return a garment record to the pool (R27). -/
def dropGarment (seq : Nat) (s : State) : State :=
  s.onTable fun t => { t with garments := t.garments.filter (·.seq != seq) }

/-! ## Orders and lines -/

/-- The order of the book with the given number (R1). -/
def order? (s : State) (number : Nat) : Option Order := s.book.orders.find? (·.number == number)

/-- Change the order with the given number. -/
def modOrder (number : Nat) (f : Order → Order) (s : State) : State :=
  s.onBook fun b => { b with orders := b.orders.map fun o => if o.number = number then f o else o }

/-- The line of an order at an index (R1). -/
def line? (s : State) (bound : Nat × Nat) : Option Line :=
  match s.order? bound.1 with
  | some o => o.lines[bound.2]?
  | none => none

/-- Change the line of an order at an index. -/
def modLine (bound : Nat × Nat) (f : Line → Line) (s : State) : State :=
  s.modOrder bound.1 fun o => { o with lines := o.lines.modify bound.2 f }

/-- The line records taken from the pool (R4). -/
def linesInUse (s : State) : Nat := (s.book.orders.map (·.lines.length)).sum

/-- The order at the order cursor (R171). -/
def orderAtCursor (s : State) : Option Order :=
  match s.host.orderCursor with
  | some number => s.order? number
  | none => none

/-- The garment at the garment cursor (R171). -/
def garmentAtCursor (s : State) : Option Garment :=
  match s.host.garmentCursor with
  | some seq => s.garment? seq
  | none => none

/-- Move the order and line cursors (R171). -/
def setOrderCursors (order line : Option Nat) (s : State) : State :=
  s.onHost fun h => { h with orderCursor := order, lineCursor := line }

/-- Move the line cursor (R171). -/
def setLineCursor (line : Option Nat) (s : State) : State := s.onHost fun h => { h with lineCursor := line }

/-- Move the garment cursor (R171). -/
def setGarmentCursor (seq : Option Nat) (s : State) : State := s.onHost fun h => { h with garmentCursor := seq }

end State

/-- The order total (R1). -/
def Order.total (o : Order) : Nat := (o.lines.map (·.ordered)).sum

/-- The allocated sum of an order (R1). -/
def Order.allocatedSum (o : Order) : Nat := (o.lines.map (·.allocated)).sum

/-- The finished sum of an order (R1). -/
def Order.finishedSum (o : Order) : Nat := (o.lines.map (·.finished)).sum

/-- The outstanding demand of a line (R3). -/
def Line.outstanding (l : Line) : Nat := l.ordered - l.finished - l.allocated

/-- Every line has finished = ordered (R20). -/
def Order.satisfied (o : Order) : Bool := o.lines.all fun l => l.finished == l.ordered

/-- The garment is ACTIVE (R26). -/
def Garment.isActive (g : Garment) : Bool := g.disposition == .active

/-- The garment is MATCHED (R26). -/
def Garment.isMatched (g : Garment) : Bool :=
  match g.place with
  | .matched _ => true
  | .onPlaten _ => false
  | .onBelt _ => false
  | .atExit => false
  | .returning => false

/-- A step is required and not done. -/
def stepOwed (required done : Bool) : Bool := required && !done

/-- A required step of the garment is not done (R120). -/
def Garment.stepsOutstanding (g : Garment) : Bool :=
  stepOwed g.required.pretreat g.done.pretreat || stepOwed g.required.press g.done.press
    || stepOwed g.required.white g.done.white || stepOwed g.required.color g.done.color

/-- The sheet is no longer needed: no step among PRETREAT, WHITE and COLOR remains required and not done (R62). -/
def Garment.sheetDone (g : Garment) : Bool :=
  !(stepOwed g.required.pretreat g.done.pretreat || stepOwed g.required.white g.done.white
    || stepOwed g.required.color g.done.color)

/-- No step of the garment is done (R41). -/
def Garment.untouched (g : Garment) : Bool := g.done == {}

namespace State

/-! ## Profile slots and recipe banks -/

/-- A profile slot; an empty record where no slot has the number (R48). -/
def slot (s : State) (n : Nat) : Profile := s.art.slots[n]?.getD {}

/-- Write a profile slot. -/
def setSlot (n : Nat) (p : Profile) (s : State) : State :=
  s.onArt fun a => { a with slots := a.slots.setIfInBounds n p }

/-- Write a recipe bank. -/
def setBank (b : Fin 4) (v : Bank) (s : State) : State :=
  s.onRecipes fun r => { r with banks := r.banks.set b v }

/-- A recipe bank (R57). -/
def bank (s : State) (b : Fin 4) : Bank := s.recipes.banks[b]

/-! ## Platens and stops (R79, R80, R85) -/

/-- A platen table entry (R80). -/
def platen (s : State) (p : Nat) : PlatenEntry := s.carousel.platens[p]?.getD {}

/-- Write the garment reference of a platen (R80). -/
def setPlatenGarment (p : Nat) (seq : Option Nat) (s : State) : State :=
  s.onCarousel fun c =>
    { c with platens := c.platens.setIfInBounds p { (s.platen p) with garment := seq } }

/-- Write the blocked flag of a platen (R81). -/
def setPlatenBlocked (p : Nat) (blocked : Bool) (s : State) : State :=
  s.onCarousel fun c =>
    { c with platens := c.platens.setIfInBounds p { (s.platen p) with blocked := blocked } }

/-- The platen standing at a stop: (s - o) mod P (R79). -/
def platenAt (s : State) (stop : Nat) : Nat :=
  (stop + s.carousel.platenCount - s.carousel.origin) % s.carousel.platenCount

/-- The stop at which a platen stands: (p + o) mod P (R79). -/
def stopOf (s : State) (p : Nat) : Nat := (p + s.carousel.origin) % s.carousel.platenCount

/-- The garment on a platen (R80). -/
def garmentOn (s : State) (p : Nat) : Option Garment :=
  match (s.platen p).garment with
  | some seq => s.garment? seq
  | none => none

/-- The garment at a stop: the garment on the platen that stands there (R79, R80). -/
def garmentAt (s : State) (stop : Nat) : Option Garment := s.garmentOn (s.platenAt stop)

/-- A stop (R85, R107). -/
def stop (s : State) (n : Nat) : Stop := s.carousel.stops[n]?.getD {}

/-- The service state of a stop (R85). -/
def service (s : State) (n : Nat) : Service := (s.stop n).service

/-- The carousel station at a stop (R82). From START onward a stop has at most one (R159). -/
def stationAt (s : State) (n : Nat) : Option Link :=
  s.station.links.toList.find? fun l => l.kind.isCarousel && l.stop == n

/-- Set the service state of a stop. The UNLOAD stop's instruction record becomes none whenever its stop's state becomes
NONE (R121). -/
def setService (n : Nat) (v : Service) (s : State) : State :=
  s.onCarousel fun c =>
    { c with
      stops := c.stops.setIfInBounds n { (s.stop n) with service := v }
      unloadRecord :=
        if v = .none ∧ (s.stationAt n).map (·.kind) = some .unload then none else c.unloadRecord }

/-- Write the void marker of a stop (R107). -/
def setVoid (n : Nat) (seq : Option Nat) (s : State) : State :=
  s.onCarousel fun c => { c with stops := c.stops.setIfInBounds n { (s.stop n) with void := seq } }

/-- Write the UNLOAD instruction record (R121). -/
def setUnloadRecord (r : Option UnloadInstruction) (s : State) : State :=
  s.onCarousel fun c => { c with unloadRecord := r }

/-- Every stop NONE, every void marker none and the instruction record none (R78, R98, R107, R121, R160). -/
def clearStops (s : State) : State :=
  s.onCarousel fun c => { c with stops := .replicate 16 {}, unloadRecord := none }

/-! ## Links -/

/-- A station link (R82). -/
def link (s : State) (l : LinkNo) : Link := s.station.links[l]

/-- Change a station link. -/
def modLink (l : LinkNo) (f : Link → Link) (s : State) : State :=
  s.onStation fun t => { t with links := t.links.set l (f t.links[l]) }

end State

/-! ## Belt geometry (R124, R130) -/

/-- The heater segment that covers the `n`-th cell of the heat zone, with segments of the given lengths from number `k`
up (R124). -/
def segmentFrom (k : Nat) : List Nat → Nat → Option Nat
  | [], _ => none
  | len :: rest, n => if n < len then some k else segmentFrom (k + 1) rest (n - len)

/-- The heater segment of a belt cell; none outside the heat zone (R124). -/
def BeltGeometry.segmentAt (g : BeltGeometry) (cell : Nat) : Option Nat :=
  if g.entry ≤ cell ∧ cell < g.entry + g.heat then
    segmentFrom 0 (g.lengths.toList.take g.segments) (cell - g.entry)
  else none

/-- The belt cell lies in the heat zone (R124). -/
def BeltGeometry.inHeatZone (g : BeltGeometry) (cell : Nat) : Bool :=
  g.entry ≤ cell && cell < g.entry + g.heat

/-- The middle cell of a garment of length `len` with its tail at `tail` (R130). -/
def middleCell (tail len : Nat) : Nat := tail + (len - 1) / 2

/-- The garment lies on the belt with its middle cell in the heat zone (R136). -/
def Garment.middleInHeat (geo : BeltGeometry) (g : Garment) : Bool :=
  match g.place.tail? with
  | some tail => geo.inHeatZone (middleCell tail g.length)
  | none => false

end Sys2Proof.Machine
end

