-- ==== Sys2Proof/Machine/Flags.lean ====
section
/-! DEFINITION. Attention flags, the two lines out, and the tests that raise a flag when time passes: R90 to R94, R129,
R136, R162 to R165. -/

namespace Sys2Proof.Machine

/-- The sixteen attention flags (R163). -/
inductive Flag where
  | orderDone | orderCancelled | stray | spoil | forcedIndex | stationLate | stall | tempStale
  | overtemp | conflict | undercure | binFull | poolLow | bankApplied | drained | binClear
  deriving DecidableEq, Repr

/-- A flag's number, its place in every 16-bit mask (R163). -/
def Flag.number : Flag → Nat
  | .orderDone => 0 | .orderCancelled => 1 | .stray => 2 | .spoil => 3 | .forcedIndex => 4 | .stationLate => 5
  | .stall => 6 | .tempStale => 7 | .overtemp => 8 | .conflict => 9 | .undercure => 10 | .binFull => 11
  | .poolLow => 12 | .bankApplied => 13 | .drained => 14 | .binClear => 15

/-- The mask with the flag's own bit set (R163). -/
def Flag.mask (f : Flag) : BitVec 16 := BitVec.twoPow 16 f.number

namespace State

/-- A block raises a flag: its request is set, whatever the enables (R163). -/
def raise (f : Flag) (s : State) : State :=
  s.onAttention fun a => { a with requests := a.requests ||| f.mask }

/-- The flag's request is set (R163). -/
def requested (s : State) (f : Flag) : Bool := s.attention.requests.getLsbD f.number

/-- The level of ATTN (R165). -/
def attn (s : State) : Bool :=
  s.attention.master && (s.attention.requests &&& s.attention.enables) != 0

/-- The line mode is RUN or DRAIN (R92, R94). -/
def turning (s : State) : Bool := s.mode == .run || s.mode == .drain

end State

/-- DUE and IN_SERVICE are the states that hold INDEX PERMIT low (R85, R92). -/
def Service.holds : Service → Bool
  | .none => false | .due => true | .inService => true | .done => false | .missed => false

namespace State

/-- A link that holds INDEX PERMIT low: an ENABLED, non-exempt carousel station whose stop is DUE or IN_SERVICE (R92). -/
def linkHolds (s : State) (l : Link) : Bool :=
  l.kind.isCarousel && !l.bypassed && !l.exempt && (s.service l.stop).holds

/-- The level of INDEX PERMIT (R92). -/
def indexPermit (s : State) : Bool := s.turning && !s.station.links.toList.any s.linkHolds

/-! ## Timers (R93, R94, R129, R136, R162) -/

/-- The dwell is late (R94). -/
def dwellIsLate (s : State) : Bool :=
  s.turning && !s.indexPermit && s.carousel.dwellLimit * 1000 ≤ s.carousel.dwell

/-- The first moment of a late dwell: STATION_LATE is raised and the late marker is set (R94). -/
def lateTest (s : State) : State :=
  if s.dwellIsLate && !s.carousel.late then
    (s.onCarousel fun c => { c with late := true }).raise .stationLate
  else s

/-- The first moment of staleness: TEMP_STALE is raised and the stale marker is set (R129). -/
def staleTest (s : State) : State :=
  match s.tunnel.stale with
  | some t =>
    if s.tunnel.staleLimit * 1000 ≤ t ∧ s.tunnel.staleMarker = false then
      (s.onTunnel fun u => { u with staleMarker := true }).raise .tempStale
    else s
  | none => s

/-- The garment is in the belt list with its middle cell in the heat zone (R136). -/
def inHeat (s : State) (g : Garment) : Bool :=
  s.tunnel.belt.contains g.seq && g.middleInHeat s.tunnel.geometry

/-- A stall begins: STALL is raised, SCORCH_RISK is added to every garment of the belt list whose middle cell is in the heat
zone, of any disposition, and the stall marker is set (R136). -/
def beginStall (s : State) : State :=
  ((s.onTable fun t =>
      { t with garments := t.garments.map fun g =>
          if s.inHeat g then { g with inspect := { g.inspect with scorchRisk := true } } else g }).onTunnel
    fun u => { u with stallMarker := true }).raise .stall

/-- The moment of a stall: the timer has reached the limit, the marker is clear, and a garment's middle cell is in the heat
zone (R136). -/
def stallTest (s : State) : State :=
  match s.tunnel.stall with
  | some t =>
    if s.tunnel.stallLimit * 1000 ≤ t ∧ s.tunnel.stallMarker = false ∧ s.garments.any s.inHeat then s.beginStall
    else s
  | none => s

end State

/-- The dwell timer holds at 600,000 (R93). -/
def dwellCap : Nat := 600000

/-- The stale timer holds at 30,000 (R129). -/
def staleCap : Nat := 30000

/-- The stall timer holds at 120,000 (R136). -/
def stallCap : Nat := 120000

/-- The longest gap that does not end a frame, in milliseconds (R100). -/
def gapLimit : Nat := 10

/-- A receiver after `n` milliseconds without a byte: a gap of more than 10 ms discards the frame in collection (R100). -/
def Receiver.wait (n : Nat) : Receiver → Receiver
  | .hunting => .hunting
  | .collecting gap => if gapLimit < gap + n then .hunting else .collecting (gap + n)
  | .answering reply => .answering reply

namespace State

/-- `n` milliseconds pass: the timebase, the running timers and the gaps of frames in collection (R93, R100, R129, R136,
R162). -/
def passTime (n : Nat) (s : State) : State :=
  { s with
    timebase := (s.timebase + n) % 2 ^ 32
    carousel := { s.carousel with dwell := min dwellCap (s.carousel.dwell + n) }
    tunnel := { s.tunnel with
      stale := s.tunnel.stale.map fun t => min staleCap (t + n)
      stall := s.tunnel.stall.map fun t => min stallCap (t + n) }
    station := { s.station with
      links := s.station.links.map fun l => { l with receiver := l.receiver.wait n } } }

/-- `n` milliseconds pass, and each timer whose limit is reached has its effect (R94, R129, R136). -/
def advance (n : Nat) (s : State) : State := (s.passTime n).lateTest.staleTest.stallTest

end State

end Sys2Proof.Machine
end

