-- ==== Sys2Proof/Machine/Sheet.lean ====
section
/-! DEFINITION. The work sheet arithmetic: R49, R65 to R77. -/

namespace Sys2Proof.Machine

/-! ## Cells of a canvas (R49) -/

/-- The cell of a profile at a canvas index: the block at element index ÷ 64 of the chain, offset index mod 64 (R49). -/
def ArtworkStore.cell (a : ArtworkStore) (p : Profile) (index : Nat) : Code :=
  match p.chain[index / 64]? with
  | some block =>
    match a.cells[block]? with
    | some b => b[index % 64]?.getD 0
    | none => 0
  | none => 0

/-- The canvas index of window cell (r, k) for a window that starts at the given row and column (R49). -/
def windowIndex (width startRow startCol r k : Nat) : Nat := (startRow + r) * width + startCol + k

/-- The row skip of a profile (R49). -/
def Profile.rowSkip (p : Profile) : Nat := p.width - p.cols

/-! ## One cell (R67 to R70) -/

/-- The effective code: cell and mask by exclusive-or (R67). -/
def effectiveCode (mask cell : Code) : Code := cell ^^^ mask

/-- The live recipe of a code in a bank; the pending copy is not read (R57, R67). -/
def Bank.recipe (b : Bank) (code : Code) : Recipe :=
  match b.entries[code.toNat]? with
  | some e => e.live
  | none => {}

/-- The economy stage: white level and colour load rounded down to a multiple of 32 (R68). -/
def economise (on : Bool) (v : Nat) : Nat := if on then v - v % 32 else v

/-- A cell's ink after the cap stage, and whether the cell is capped (R69). -/
def capInk (cap w u : Nat) : Nat × Nat × Bool :=
  if cap < w + u then (if cap ≤ w then (cap, 0, true) else (w, cap - w, true)) else (w, u, false)

/-- The pretreatment dose of a cell (R70). -/
def dose (p factor : Nat) (choke : Int) : Nat :=
  if p = 0 then 0 else (min 255 (max 0 (((p * factor + 64) / 128 : Nat) - choke))).toNat

/-! ## The cell pass (R67 to R71) -/

/-- What the cell pass reads besides the cells (R65). -/
structure PassInputs where
  bank : Bank
  mask : Code
  choke : Int
  factor : Nat
  economy : Bool
  inkCap : Nat

/-- One cell of the pass adds to the running sums (R67 to R71). -/
def passCell (i : PassInputs) (sums : RunningSums) (cell : Code) : RunningSums :=
  let e := i.bank.recipe (effectiveCode i.mask cell)
  let ink := capInk i.inkCap (economise i.economy e.w) (economise i.economy e.u)
  { wsum := sums.wsum + ink.1
    usum := sums.usum + ink.2.1
    dsum := sums.dsum + dose e.p i.factor i.choke
    capped := sums.capped + ink.2.2.toNat }

/-- The window cells of a profile, row 0 first and within a row from column 0 upward (R49, R67). -/
def windowCells (a : ArtworkStore) (p : Profile) : List Code :=
  (List.range p.rows).flatMap fun r =>
    (List.range p.cols).map fun k => a.cell p (windowIndex p.width p.startRow p.startCol r k)

/-- The running sums at the end of the cell pass, which starts from 0 (R65, R71). -/
def cellPass (i : PassInputs) (cells : List Code) : RunningSums := cells.foldl (passCell i) {}

/-! ## What follows from the totals (R72 to R75) -/

/-- The largest cure demand and cure accumulated (R72, R134). -/
def cureCap : Nat := 65535

/-- The cure demand Q (R72). -/
def cureDemand (baseCure kW kU wsum usum : Nat) : Nat :=
  min cureCap (baseCure + (wsum * kW + usum * kU) / 1024)

/-- The number of white passes (R73). -/
def whitePasses (cls : ColourClass) (economy : Bool) (wsum : Nat) : Nat :=
  if wsum = 0 then 0 else if cls = .dark ∧ economy = false then 2 else 1

/-- The route (R74). -/
def routeOf (sums : RunningSums) : StepSet :=
  { pretreat := 0 < sums.dsum, press := 0 < sums.dsum, white := 0 < sums.wsum, color := 0 < sums.usum }

/-- The recipe bank of a colour class (R24, R57). -/
def ColourClass.bank : ColourClass → Fin 4
  | .light => 0 | .mid => 1 | .dark => 2 | .heather => 3

/-- A finished sheet (R75): the sums, the figures, the claim and the route. -/
structure Sheet where
  sums : RunningSums
  figures : SheetFigures
  claim : Claim
  route : StepSet

namespace State

/-- The style table entry of a style (R23). -/
def style (s : State) (n : Nat) : StyleEntry := s.garmentTable.styles[n]?.getD {}

/-- The colour class of a colour (R24). -/
def colourClass (s : State) (n : Nat) : ColourClass := s.garmentTable.colours[n]?.getD .light

/-- The fabric table entry of a fabric class (R25). -/
def fabric (s : State) (n : Nat) : FabricEntry := s.garmentTable.fabrics[n]?.getD {}

/-- The work sheet of a blank for a line's art settings, from the inputs as they stand (R65 to R76). -/
def computeSheet (s : State) (art : ArtSettings) (key : BlankKey) : Sheet :=
  let p := s.slot art.profile
  let cls := s.colourClass key.colour
  let fab := s.fabric (s.style key.style).fabric
  let sums := cellPass
    { bank := s.bank cls.bank, mask := art.mask, choke := art.choke, factor := fab.factor
      economy := s.sheet.economy, inkCap := s.sheet.inkCap } (windowCells s.art p)
  { sums
    figures :=
      { rows := if art.orient.exchange then p.cols else p.rows
        cols := if art.orient.exchange then p.rows else p.cols
        orient := art.orient, profile := art.profile, x := art.x, y := art.y
        wsum := sums.wsum, usum := sums.usum, dsum := sums.dsum, capped := sums.capped
        passes := whitePasses cls s.sheet.economy sums.wsum
        cureDemand := cureDemand fab.baseCure s.sheet.kW s.sheet.kU sums.wsum sums.usum }
    claim :=
      { slot := art.profile, bank := cls.bank, startCol := p.startCol, startRow := p.startRow
        cols := p.cols, rows := p.rows, mask := art.mask, choke := art.choke, factor := fab.factor }
    route := routeOf sums }

end State

/-! ## Orientation and dose rows (R76, R77) -/

/-- The window cell of garment cell (i, j) for a window of the given rows and columns (R76). -/
def windowCellOf (o : Orientation) (rows cols i j : Nat) : Nat × Nat :=
  let a := if o.exchange then j else i
  let b := if o.exchange then i else j
  (if o.mirrorY then rows - 1 - a else a, if o.mirrorX then cols - 1 - b else b)

namespace State

/-- The dose of window cell (a, b) from a sheet claim (R77). -/
def claimDose (s : State) (c : Claim) (a b : Nat) : Nat :=
  let p := s.slot c.slot
  let e := (s.bank c.bank).recipe
    (effectiveCode c.mask (s.art.cell p (windowIndex p.width c.startRow c.startCol a b)))
  dose e.p c.factor c.choke

/-- Row `i` of the garment-frame doses, columns 0 to C' - 1 (R77). -/
def doseRow (s : State) (c : Claim) (f : SheetFigures) (i : Nat) : List Nat :=
  (List.range f.cols).map fun j =>
    let ab := windowCellOf f.orient c.rows c.cols i j
    s.claimDose c ab.1 ab.2

end State

end Sys2Proof.Machine
end

