-- ==== Sys2Proof/Machine/Ops.lean ====
section
/-! DEFINITION. The operations that commands share: answers, counter changes, sheet claims, spoil and retirement, service
states, matching, placement, the end of a drain, and the checks of station frames. -/

namespace Sys2Proof.Machine

/-! ## Answers of the host link (R167, R169) -/

/-- What a host command comes to: refused with a status (and the one reply byte START has), or carried out. -/
inductive HostResult where
  | refuse (status : Status) (reply : List Byte)
  | done (s : State) (reply : List Byte)

/-- A refusal without reply bytes (R167). -/
def refuse (status : Status) : HostResult := .refuse status []

/-- A command carried out that returns no reply bytes. -/
def done (s : State) : HostResult := .done s []

namespace State

/-- Record what the port drives for the command taken (R167). -/
def answer (bytesIn : Nat) (status : Status) (reply : List Byte) (s : State) : State :=
  s.onHost fun h => { h with answer := some { bytesIn, status, reply } }

/-- A host command is taken (R167, R169): refused, it changes nothing but the answer; carried out, it is answered OK. -/
def hostTake (bytesIn : Nat) (s : State) : HostResult → State
  | .refuse status reply => s.answer bytesIn status reply
  | .done s' reply => s'.answer bytesIn .ok reply

/-! ## Bins (R143, R153) -/

/-- The bin entry at a number (R143). -/
def bin (s : State) (b : Nat) : Option BinHold := s.pack.bins[b]?.getD none

/-- Write a bin entry (R143). -/
def setBin (b : Nat) (v : Option BinHold) (s : State) : State :=
  s.onPack fun p => { p with bins := p.bins.setIfInBounds b v }

/-- Free a bin without a flag (R148, R153). -/
def freeBin (b : Nat) (s : State) : State := s.setBin b none

/-- Free a bin handed back by the order book: BIN_CLEAR is raised if garments lie in it (R153). -/
def handBackBin (b : Option Nat) (s : State) : State :=
  match b with
  | none => s
  | some b =>
    match s.bin b with
    | some h => if 0 < h.count then (s.freeBin b).raise .binClear else s.freeBin b
    | none => s.freeBin b

/-! ## Counter changes (R17, R19, R20) -/

/-- The cancellation end condition of one order (R17). -/
def cancellationEnd (number : Nat) (s : State) : State :=
  match s.order? number with
  | some o =>
    if o.state = .cancelling ∧ o.allocatedSum = 0 then
      ((s.modOrder number fun o => { o with state := .cancelled, bin := none }).handBackBin o.bin).raise .orderCancelled
    else s
  | none => s

/-- The completion test of one order (R20). -/
def completionTest (number : Nat) (s : State) : State :=
  match s.order? number with
  | some o =>
    if (o.state = .opened ∨ o.state = .held) ∧ o.satisfied then
      (s.modOrder number fun o => { o with state := .complete }).raise .orderDone
    else s
  | none => s

/-- An allocate (R19). -/
def allocate (bound : Nat × Nat) (s : State) : State :=
  s.modLine bound fun l => { l with allocated := l.allocated + 1 }

/-- A return (R19). A garment with no bound line has no line to send one to (R44). -/
def giveBack (bound : Option (Nat × Nat)) (s : State) : State :=
  match bound with
  | some b => (s.modLine b fun l => { l with allocated := l.allocated - 1 }).cancellationEnd b.1
  | none => s

end State

/-- The spoiled counter of a line holds at 255 (R2, R19). -/
def spoiledCap : Nat := 255

/-- The count of a bin holds at 99 (R143). -/
def binCountCap : Nat := 99

/-- Laps hold at 3 (R95). -/
def lapsCap : Nat := 3

namespace State

/-- A spoil as the order book takes it (R19). -/
def countSpoil (bound : Option (Nat × Nat)) (s : State) : State :=
  match bound with
  | some b =>
    (s.modLine b fun l =>
      { l with allocated := l.allocated - 1, spoiled := min spoiledCap (l.spoiled + 1) }).cancellationEnd b.1
  | none => s

/-! ## Use counts and sheet release (R58 to R62) -/

/-- The number of marked entries of a bank (R57). -/
def markedCount (b : Bank) : Nat := (b.entries.toList.filter (·.pending.isSome)).length

/-- Every marked entry takes its pending value and its mark is cleared (R59). -/
def applyEntries (b : Bank) : Bank :=
  { b with entries := b.entries.map fun e => { live := e.pending.getD e.live, pending := none } }

/-- A bank applies its pending edits, if it has any, and BANK_APPLIED is raised (R59). -/
def applyPending (b : Fin 4) (s : State) : State :=
  if markedCount (s.bank b) = 0 then s else (s.setBank b (applyEntries (s.bank b))).raise .bankApplied

/-- The use count of a slot falls by 1 (R61). -/
def dropSlotUse (n : Nat) (s : State) : State := s.setSlot n { (s.slot n) with useCount := (s.slot n).useCount - 1 }

/-- The use count of a bank falls by 1; at 0 the bank applies its pending edits (R59, R61). -/
def dropBankUse (b : Fin 4) (s : State) : State :=
  let t := s.setBank b { (s.bank b) with useCount := (s.bank b).useCount - 1 }
  if (t.bank b).useCount = 0 then t.applyPending b else t

/-- A sheet claim raises both use counts by 1 (R61). -/
def takeClaim (c : Claim) (s : State) : State :=
  let t := s.setSlot c.slot { (s.slot c.slot) with useCount := (s.slot c.slot).useCount + 1 }
  t.setBank c.bank { (t.bank c.bank) with useCount := (t.bank c.bank).useCount + 1 }

/-- A garment's sheet is released, once: the claim is given up and both use counts fall by 1 (R62). -/
def releaseSheet (seq : Nat) (s : State) : State :=
  match (s.garment? seq).bind (·.claim) with
  | some c => ((s.modGarment seq fun g => { g with claim := none }).dropSlotUse c.slot).dropBankUse c.bank
  | none => s

/-- The first release condition of R62, tested after a change to the steps required or done. -/
def releaseTest (seq : Nat) (s : State) : State :=
  match s.garment? seq with
  | some g => if g.sheetDone then s.releaseSheet seq else s
  | none => s

/-! ## Spoil, restock and retirement (R35, R36, R40, R43) -/

/-- The last-spoil record is written (R39). -/
def noteSpoil (g : Garment) (reason : SpoilReason) (s : State) : State :=
  s.onTable fun t =>
    { t with lastSpoil :=
        { ticket := some g.seq, order := g.bound.map (·.1), line := g.bound.map (·.2), reason := some reason
          count := (t.lastSpoil.count + 1) % 65536 } }

/-- A spoil: an ACTIVE garment becomes SPOILED; any other is left as it is (R36). -/
def spoil (seq : Nat) (reason : SpoilReason) (s : State) : State :=
  match s.garment? seq with
  | some g =>
    if g.isActive then
      (((((s.modGarment seq fun g => { g with disposition := .spoiled reason }).countSpoil g.bound).releaseSheet seq
        ).noteSpoil g reason).raise .spoil)
    else s
  | none => s

/-- Restock: an ACTIVE garment becomes RESTOCK, with a return on its line (R40). -/
def restock (seq : Nat) (s : State) : State :=
  match s.garment? seq with
  | some g =>
    ((s.modGarment seq fun g => { g with disposition := .restock }).giveBack g.bound).releaseSheet seq
  | none => s

/-- The garment leaves its place: its platen is emptied, or it is removed from the belt list, the exit list or the return
list (R43). -/
def leavePlace (g : Garment) (s : State) : State :=
  let t := match g.place.platen? with
    | some p => s.setPlatenGarment p none
    | none => s
  (t.onTunnel fun u => { u with belt := u.belt.filter (· != g.seq) }).onPack fun p =>
    { p with exitList := p.exitList.filter (· != g.seq), returnList := p.returnList.filter (· != g.seq) }

/-- Retirement: the garment leaves its place, an unreleased sheet is released, the record returns to the pool, and a garment
cursor that stood on it becomes NONE (R43). -/
def retire (seq : Nat) (s : State) : State :=
  match s.garment? seq with
  | some g =>
    let t := ((s.leavePlace g).releaseSheet seq).dropGarment seq
    if t.host.garmentCursor = some seq then t.setGarmentCursor none else t
  | none => s

/-- A cancelled match: a return, the sheet released, the platen at stop 0 emptied, the garment retired (R35). -/
def cancelMatch (g : Garment) (s : State) : State :=
  (((s.giveBack g.bound).releaseSheet g.seq).setPlatenGarment (s.platenAt 0) none).retire g.seq

/-! ## Service states (R86, R87) -/

end State

/-- The pretreat prerequisite: PRETREAT is not required, or PRESS is done (R86). -/
def Garment.pretreatMet (g : Garment) : Bool := !g.required.pretreat || g.done.press

/-- The service a station of the given kind owes the garment before it (R86). -/
def Garment.serviceFrom (g : Garment) : StationKind → Service
  | .load => .none
  | .pretreat => if g.isActive && stepOwed g.required.pretreat g.done.pretreat then .due else .none
  | .press =>
    if g.isActive && stepOwed g.required.press g.done.press then (if g.done.pretreat then .due else .missed) else .none
  | .printW =>
    if g.isActive && stepOwed g.required.white g.done.white then (if g.pretreatMet then .due else .missed) else .none
  | .printC =>
    if g.isActive && stepOwed g.required.color g.done.color then
      (if !stepOwed g.required.white g.done.white && g.pretreatMet then .due else .missed)
    else .none
  | .unload => .due
  | .tunnel => .none
  | .pack => .none
  | .unassigned => .none

namespace State

/-- The LOAD stop is DUE for an empty, unblocked platen in RUN (R86). -/
def loadDue (s : State) (stop : Nat) : Bool :=
  s.mode == .run && (s.platen (s.platenAt stop)).garment.isNone && !(s.platen (s.platenAt stop)).blocked

/-- The service state a recomputation gives a stop (R86). -/
def dueState (s : State) (stop : Nat) : Service :=
  match s.stationAt stop with
  | none => .none
  | some l =>
    if l.bypassed then .none
    else if l.kind = .load then (if s.loadDue stop then .due else .none)
    else
      match s.garmentAt stop with
      | some g => g.serviceFrom l.kind
      | none => .none

/-- A recomputation outside an index event acts on a stop in NONE, DUE or MISSED (R86). -/
def recompute (stop : Nat) (s : State) : State :=
  if s.service stop = .inService ∨ s.service stop = .done then s else s.setService stop (s.dueState stop)

/-- The recomputation of an index event acts on every stop, whatever its state, and sets every void marker and the UNLOAD
instruction record to none (R86, R88, R107, R121). -/
def recomputeAll (s : State) : State :=
  s.onCarousel fun c =>
    { c with
      stops := Vector.ofFn fun i : Fin 16 =>
        { service := if i.val < s.carousel.platenCount then s.dueState i.val else .none }
      unloadRecord := none }

/-- The carousel tracker recomputes the LOAD stop at a change of line mode (R87). -/
def recomputeLoad (s : State) : State := s.recompute 0

/-! ## The end of DRAIN (R160) -/

/-- The stale and stall timers are stopped and their markers cleared (R129, R136, R139, R160). -/
def stopTunnelTimers (s : State) : State :=
  s.onTunnel fun u => { u with stale := none, stall := none, staleMarker := false, stallMarker := false }

/-- The end of the drain (R160). -/
def endDrain (s : State) : State := ((s.setMode .setup).clearStops.stopTunnelTimers).raise .drained

/-- The drain test: in DRAIN, with every garment record free, the drain ends (R160). -/
def drainTest (s : State) : State := if s.mode = .drain ∧ s.garments = [] then s.endDrain else s

/-- The drain test is made after an event that retires a garment, once the event has made its own changes (R160). -/
def drainAfter (before after : State) : State :=
  if after.garments.length < before.garments.length then after.drainTest else after

/-! ## Matching (R28, R31, R33, R34) -/

/-- The line is eligible for a blank key, its order being OPEN (R31). -/
def lineEligible (s : State) (key : BlankKey) (l : Line) : Bool :=
  l.key == key && 0 < l.outstanding && (s.slot l.art.profile).state == .ready

/-- The first eligible line of an order (R31). -/
def firstLine (s : State) (key : BlankKey) (o : Order) : Option Nat := o.lines.findIdx? (s.lineEligible key)

/-- The first eligible line in one reading of the admission list, for one priority class (R31). -/
def lineInClass (s : State) (key : BlankKey) (cls : Nat) : Option (Nat × Nat) :=
  s.book.admission.findSome? fun number =>
    match s.order? number with
    | some o =>
      if o.cls = cls ∧ o.state = .opened then (s.firstLine key o).map fun i => (number, i) else none
    | none => none

/-- The line a blank will serve: one reading for each class, 3 first and 0 last (R31). -/
def chosenLine (s : State) (key : BlankKey) : Option (Nat × Nat) := [3, 2, 1, 0].findSome? (s.lineInClass key)

end State

/-- The sequence value after the given one (R28). -/
def nextSeq (n : Nat) : Nat := if n ≥ 99999999 then 1 else n + 1

/-- The first value from `n` on that no live garment holds; `fuel` bounds the values passed over (R28). -/
def freeSeq (live : List Nat) : Nat → Nat → Nat
  | 0, n => n
  | fuel + 1, n => if live.contains n then freeSeq live fuel (nextSeq n) else n

namespace State

/-- The sequence value a match is issued. The search passes over at most as many values as there are live garments (R28). -/
def issuedSeq (s : State) : Nat :=
  freeSeq (s.garments.map (·.seq)) s.garments.length s.garmentTable.generator

/-- The generator holds the value after the one issued (R28). -/
def setGenerator (n : Nat) (s : State) : State := s.onTable fun t => { t with generator := n }

/-- The running sums keep what the last computation left (R65). -/
def setSums (r : RunningSums) (s : State) : State := s.onSheet fun e => { e with sums := r }

/-- The garment record of a match, at its values at match (R26, R33). -/
def matchedGarment (s : State) (key : BlankKey) (bound : Nat × Nat) (sheet : Sheet) : Garment :=
  { seq := s.issuedSeq, key, bound := some bound, place := .matched (s.platenAt 0), required := sheet.route
    figures := sheet.figures, claim := some sheet.claim, length := (s.style key.style).length }

/-- POOL_LOW is raised when a match leaves fewer than 4 records free (R34). -/
def poolTest (s : State) : State := if s.freeGarments < 4 then s.raise .poolLow else s

/-- A match: record, ticket, allocate, sheet, claim, platen, stop 0 IN_SERVICE, an empty route released, POOL_LOW tested
(R33, R34). -/
def makeMatch (key : BlankKey) (bound : Nat × Nat) (art : ArtSettings) (s : State) : State :=
  let sheet := s.computeSheet art key
  let g := s.matchedGarment key bound sheet
  ((((((((s.addGarment g).setGenerator (nextSeq g.seq)).allocate bound).setSums sheet.sums).takeClaim sheet.claim
    ).setPlatenGarment (s.platenAt 0) (some g.seq)).setService 0 .inService).releaseTest g.seq).poolTest

/-! ## Reassignment (R41, R42) -/

/-- The garment is a candidate of the reassignment pass of an order, at the stop where it stands (R41). -/
def isCandidate (s : State) (number : Nat) (stop : Nat) (g : Garment) : Bool :=
  g.bound.map (·.1) == some number && g.isActive && g.untouched && g.place.platen?.isSome
    && s.service stop != .inService

/-- The candidates of the pass, as stop and ticket, in ascending order of the stop; fixed when the pass begins (R41). -/
def candidates (s : State) (number : Nat) : List (Nat × Nat) :=
  (List.range s.carousel.platenCount).filterMap fun stop =>
    match s.garmentAt stop with
    | some g => if s.isCandidate number stop g then some (stop, g.seq) else none
    | none => none

/-- A garment is moved to a new line: return, old sheet released, new line and allocate, new sheet, new route and its
release test, and the stop recomputed (R42). -/
def moveGarment (stop seq : Nat) (g : Garment) (bound : Nat × Nat) (art : ArtSettings) (s : State) : State :=
  let t := (((s.giveBack g.bound).releaseSheet seq).modGarment seq fun g => { g with bound := some bound }).allocate bound
  let sheet := t.computeSheet art g.key
  ((((t.setSums sheet.sums).modGarment seq fun g =>
      { g with required := sheet.route, figures := sheet.figures, claim := some sheet.claim }).takeClaim sheet.claim
    ).releaseTest seq).recompute stop

/-- One candidate of the pass is re-matched, or restocked where no line is found; its stop is recomputed (R42). -/
def reassign (stop seq : Nat) (s : State) : State :=
  match s.garment? seq with
  | some g =>
    match s.chosenLine g.key with
    | some bound =>
      match s.line? bound with
      | some l => s.moveGarment stop seq g bound l.art
      | none => s
    | none => (s.restock seq).recompute stop
  | none => s

/-- The reassignment pass of an order (R41). -/
def reassignmentPass (number : Nat) (s : State) : State :=
  (s.candidates number).foldl (fun t c => t.reassign c.1 c.2) s

/-! ## Belt (R131, R132) -/

/-- The tail of the back entry of the belt list (R131). -/
def backTail (s : State) : Option Nat :=
  match s.tunnel.belt.getLast? with
  | some seq => (s.garment? seq).bind (·.place.tail?)
  | none => none

/-- Entry is clear for a garment of the given length: the belt list is empty, or the tail of its back entry is at least
L + G (R131). -/
def entryClear (s : State) (len : Nat) : Bool :=
  match s.backTail with
  | some tail => len + s.tunnel.geometry.gap ≤ tail
  | none => s.tunnel.belt.isEmpty

/-- BELT_OVERLAP is added to a garment's inspect reasons (R132). -/
def markOverlap (seq : Nat) (s : State) : State :=
  s.modGarment seq fun g => { g with inspect := { g.inspect with beltOverlap := true } }

/-- The conflict set gains ENTRY_OVERLAP, or RETURN_OVERLAP for a return (R132, R133). -/
def noteConflict (returned : Bool) (s : State) : State :=
  s.onTunnel fun u =>
    { u with conflicts :=
        if returned then { u.conflicts with returnOverlap := true } else { u.conflicts with entryOverlap := true } }

/-- The garment is appended at the back of the belt list with tail position 0 (R132). -/
def layOnBelt (seq : Nat) (s : State) : State :=
  (s.onTunnel fun u => { u with belt := u.belt ++ [seq] }).modGarment seq fun g => { g with place := .onBelt 0 }

/-- An overlap is recorded: the conflict set, BELT_OVERLAP on the placed garment and on the garment that was the back
entry, and CONFLICT (R132). -/
def recordOverlap (returned : Bool) (seq : Nat) (back : Option Nat) (s : State) : State :=
  let t := (s.noteConflict returned).markOverlap seq
  (match back with
    | some b => t.markOverlap b
    | none => t).raise .conflict

/-- A placement: entry clearance is tested, the garment is laid, and an overlap is recorded where entry was not clear
(R132). -/
def placeOnBelt (returned : Bool) (seq len : Nat) (s : State) : State :=
  if s.entryClear len then s.layOnBelt seq
  else (s.layOnBelt seq).recordOverlap returned seq s.tunnel.belt.getLast?

/-! ## Removing an order (R18) -/

/-- The bound lines of the garments of an order are made absent (R18, R44). -/
def unbindGarments (number : Nat) (s : State) : State :=
  s.onTable fun t =>
    { t with garments := t.garments.map fun g =>
        if g.bound.map (·.1) = some number then { g with bound := none } else g }

/-- An order is removed from the book: its admission position, its bin, the bound lines of its garments, its records, and
the cursors that stood on it (R18). -/
def removeOrder (o : Order) (s : State) : State :=
  let t := (((s.onBook fun b => { b with admission := b.admission.filter (· != o.number) }).handBackBin o.bin
    ).unbindGarments o.number).onBook fun b => { b with orders := b.orders.filter (·.number != o.number) }
  if t.host.orderCursor = some o.number then t.setOrderCursors none none else t

end State

/-! ## Station requests (R99, R102 to R104) -/

/-- The station kinds whose link carries a request (R103, section 6.2). -/
def servedBy : Request → StationKind → Bool
  | .blankScan, k => k == .load
  | .loadDone, k => k == .load
  | .loadSkip, k => k == .load
  | .sheet, k => k == .pretreat
  | .doseRow, k => k == .pretreat
  | .doseDone, k => k == .pretreat
  | .pressStart, k => k == .press
  | .pressDone, k => k == .press
  | .jobFetch, k => k == .printW || k == .printC
  | .printDone, k => k == .printW || k == .printC
  | .printFault, k => k == .printW || k == .printC
  | .unloadQuery, k => k == .unload
  | .unloadDone, k => k == .unload
  | .tempReport, k => k == .tunnel
  | .packScan, k => k == .pack
  | .packConfirm, k => k == .pack
  | .returnPlaced, k => k == .pack

/-- The payload lengths a request carries (R182). -/
def payloadLengths : Request → List Nat
  | .blankScan => [3]
  | .loadDone => [5]
  | .loadSkip => [0]
  | .sheet => [0]
  | .doseRow => [1]
  | .doseDone => [6]
  | .pressStart => [0]
  | .pressDone => [5]
  | .jobFetch => [0]
  | .printDone => [7]
  | .printFault => [6]
  | .unloadQuery => [0]
  | .unloadDone => [6]
  | .tempReport => [2, 4, 6, 8]
  | .packScan => [5]
  | .packConfirm => [6]
  | .returnPlaced => [6]

/-- The requests that carry a ticket (R103, R182). -/
def bearsTicket : Request → Bool
  | .blankScan => false
  | .loadDone => true
  | .loadSkip => false
  | .sheet => false
  | .doseRow => false
  | .doseDone => true
  | .pressStart => false
  | .pressDone => true
  | .jobFetch => false
  | .printDone => true
  | .printFault => true
  | .unloadQuery => false
  | .unloadDone => true
  | .tempReport => false
  | .packScan => true
  | .packConfirm => true
  | .returnPlaced => true

namespace State

/-- The first three checks of a checked frame: line mode, assignment, service mode (R103). -/
def linkCheck (s : State) (l : LinkNo) : Option ReplyCode :=
  if s.mode = .setup then some .offline
  else if (s.link l).kind = .unassigned then some .unassigned
  else if (s.link l).bypassed then some .bypassed
  else none

/-- The checks of a checked frame that names a request, in order; the first that fails gives the reply code (R103). -/
def frameCheck (s : State) (l : LinkNo) (rq : Request) (payload : List Byte) : Option ReplyCode :=
  match s.linkCheck l with
  | some code => some code
  | none =>
    if !servedBy rq (s.link l).kind then some .wrongStation
    else if !(payloadLengths rq).contains payload.length then some .length
    else if rq = .blankScan ∧ s.mode = .hold then some .held
    else if rq = .blankScan ∧ s.mode = .drain then some .draining
    else if bearsTicket rq && (payloadTicket payload).isNone then some .badTicket
    else none

/-- A link answers a frame: the receiver is ANSWERING with the reply frame, and the link record is written (R102, R104). -/
def reply (l : LinkNo) (request : Byte) (code : ReplyCode) (payload : List Byte) (s : State) : State :=
  s.modLink l fun k =>
    { k with
      receiver := .answering (replyFrame request code payload)
      lastRequest := some request
      lastReply := some code }

end State

/-- What the owning block makes of a request: the state, the reply code and the reply payload. -/
structure Served where
  state : State
  code : ReplyCode
  payload : List Byte

/-- A request answered with a code, nothing else changed. -/
def unserved (s : State) (code : ReplyCode) : Served := { state := s, code, payload := [] }

/-- A request answered OK. -/
def servedOk (s : State) (payload : List Byte) : Served := { state := s, code := .ok, payload }

/-- The late test follows an event that may set a stop DUE or IN_SERVICE (R94). -/
def Served.lateTest (r : Served) : Served := { r with state := r.state.lateTest }

namespace State

/-- The receiver discards every byte: it is ANSWERING (R102). -/
def answering (s : State) (l : LinkNo) : Bool :=
  match (s.link l).receiver with
  | .hunting => false
  | .collecting _ => false
  | .answering _ => true

/-- A complete request frame arrives on a link: discarded in ANSWERING (R102), refused by the checks of R103, or handed to
its owning block and answered (R102). -/
def serve (l : LinkNo) (rq : Request) (payload : List Byte) (block : State → Served) (s : State) : State :=
  if s.answering l then s
  else
    match s.frameCheck l rq payload with
    | some code => s.reply l rq.code code []
    | none => (block s).state.reply l rq.code (block s).code (block s).payload

/-! ## Begin of service and completion reports (R105, R106) -/

/-- A request that begins service at a stop (R105); `payload` is the reply payload for the garment there. -/
def beginService (stop : Nat) (payload : Garment → List Byte) (s : State) : Served :=
  match s.service stop, s.garmentAt stop with
  | .due, some g =>
    if g.isActive then (servedOk (s.setService stop .inService) (payload g)).lateTest
    else unserved (s.setService stop .done) .notDue
  | .due, none => unserved (s.setService stop .done) .notDue
  | .inService, some g => servedOk s (payload g)
  | .inService, none => unserved s .notDue
  | .none, _ => unserved s .notDue
  | .done, _ => unserved s .notDue
  | .missed, _ => unserved s .notDue

/-- The six tests of a completion report (R106). `waits` is the UNLOAD rule: a DUE stop whose record holds WAIT passes
test 5 (R121). -/
def reportTest (stop seq : Nat) (waits : Bool) (s : State) : Except ReplyCode Garment :=
  match s.garment? seq with
  | none => .error .mismatch
  | some g =>
    if (s.platen (s.platenAt stop)).garment ≠ some seq then .error .late
    else
      match s.service stop with
      | .none => .error .notDue
      | .missed => .error .notDue
      | .done => if (s.stop stop).void = some seq then .error .void else .error .notDue
      | .due => if waits && s.carousel.unloadRecord == some .wait then .ok g else .error .notInService
      | .inService => .ok g

/-- A completion report: accepted, it has the effect of its own rule; otherwise it has none (R106). -/
def report (stop : Nat) (waits : Bool) (payload : List Byte) (accepted : Garment → Served) (s : State) : Served :=
  match payloadTicket payload with
  | none => unserved s .badTicket
  | some seq =>
    match s.reportTest stop seq waits with
    | .error code => unserved s code
    | .ok g => accepted g

end State

end Sys2Proof.Machine
end

