-- ==== Sys2Proof/Machine/Artwork.lean ====
section
/-! DEFINITION. The commands of the artwork store (R50 to R56). -/

namespace Sys2Proof.Machine

/-- Blocks of the store (R47). -/
def blockCount : Nat := 384

/-- Profile slots (R48). -/
def slotCount : Nat := 48

/-- Cells of a block (R47). -/
def blockCells : Nat := 64

/-- The blocks a canvas needs (R47, R50). -/
def blocksNeeded (width height : Nat) : Nat := (width * height + 63) / 64

/-- The owner of a block in the block map; none when free (R47). -/
def ArtworkStore.owner (a : ArtworkStore) (block : Nat) : Option Nat := a.blockMap[block]?.getD none

/-- The free blocks, lowest-numbered first (R47, R50). -/
def ArtworkStore.freeBlocks (a : ArtworkStore) : List Nat :=
  (List.range blockCount).filter fun b => (a.owner b).isNone

/-- The free block count (R47). -/
def ArtworkStore.freeCount (a : ArtworkStore) : Nat := a.freeBlocks.length

namespace State

/-- The slot that is LOADING; at most one is (R48). -/
def loadingSlot (s : State) : Option Nat := (List.range slotCount).find? fun n => (s.slot n).state == .loading

/-- A slot's blocks are returned and their map entries read free (R47). -/
def returnBlocks (n : Nat) (s : State) : State :=
  s.onArt fun a => { a with blockMap := a.blockMap.map fun e => if e = some n then none else e }

/-- A slot becomes EMPTY: its blocks returned, its fields 0 (R51, R54). -/
def emptySlot (n : Nat) (s : State) : State :=
  (s.returnBlocks n).setSlot n { useCount := (s.slot n).useCount }

/-- The blocks available to PROFILE BEGIN on a slot: the free ones, the slot's own, and those of another slot that is
LOADING (R50). -/
def blocksAvailable (n : Nat) (s : State) : Nat :=
  s.art.freeCount + (s.slot n).chain.length
    + (match s.loadingSlot with
      | some m => if m = n then 0 else (s.slot m).chain.length
      | none => 0)

/-- Another slot that is LOADING is abandoned (R51). -/
def abandonOther (n : Nat) (s : State) : State :=
  match s.loadingSlot with
  | some m => if m = n then s else s.emptySlot m
  | none => s

/-- Blocks are taken for a slot: their map entries name it and their cells are 0 (R47, R50). -/
def takeBlocks (n : Nat) (blocks : List Nat) (s : State) : State :=
  s.onArt fun a =>
    { a with
      blockMap := blocks.foldl (fun m b => m.setIfInBounds b (some n)) a.blockMap
      cells := blocks.foldl (fun c b => c.setIfInBounds b (.replicate 64 0)) a.cells }

end State

/-- The window lies in its ranges and inside the canvas (R50, R55). -/
def windowOk (width height startCol startRow cols rows : Nat) : Bool :=
  1 ≤ cols && cols ≤ 32 && 1 ≤ rows && rows ≤ 40 && startCol + cols ≤ width && startRow + rows ≤ height

/-- The geometry of PROFILE BEGIN lies in its ranges (R50). -/
def geometryOk (slot width height startCol startRow cols rows : Nat) : Bool :=
  slot ≤ maxSlot && 1 ≤ width && width ≤ 64 && 1 ≤ height && height ≤ 64
    && windowOk width height startCol startRow cols rows
where
  /-- The highest slot number (R48). -/
  maxSlot : Nat := 47

/-- A slot that is READY with a use count above 0 is in use (R50, R54, R55). -/
def Profile.inUse (p : Profile) : Bool := p.state == .ready && 0 < p.useCount

/-- The slot is prepared for upload: another upload abandoned, the slot's own blocks returned, the lowest free blocks taken,
the record written (R50). -/
def State.beginProfile (n : Nat) (p : Profile) (s : State) : State :=
  let t := (s.abandonOther n).returnBlocks n
  let blocks := t.art.freeBlocks.take (blocksNeeded p.width p.height)
  (t.takeBlocks n blocks).setSlot n { p with state := .loading, chain := blocks, fill := 0, useCount := (s.slot n).useCount }

/-- PROFILE_BEGIN (R50). -/
def execProfileBegin (slot width height format startCol startRow cols rows : Byte) (s : State) : Out :=
  .next (s.hostTake 9
    (match cellFormat? format with
    | none => refuse .range
    | some f =>
      if !geometryOk slot.toNat width.toNat height.toNat startCol.toNat startRow.toNat cols.toNat rows.toNat then
        refuse .range
      else if (s.slot slot.toNat).inUse then refuse .busy
      else if s.blocksAvailable slot.toNat < blocksNeeded width.toNat height.toNat then refuse .full
      else
        let t := s.beginProfile slot.toNat
          { width := width.toNat, height := height.toNat, format := f, startCol := startCol.toNat
            startRow := startRow.toNat, cols := cols.toNat, rows := rows.toNat }
        .done t (u8 (blocksNeeded width.toNat height.toNat) :: u16 t.art.freeCount)))

/-! ## PROFILE DATA (R52) -/

/-- The cells a data byte gives (R52). -/
def cellsOfByte (f : CellFormat) (b : Byte) : List Code :=
  match f with
  | .fourBit => [BitVec.ofNat 6 (b.toNat / 16), BitVec.ofNat 6 (b.toNat % 16)]
  | .sixBit => [BitVec.ofNat 6 (b.toNat % 64)]

/-- A data byte of the 6-bit format whose cell is counted as masked (R52). -/
def byteMasked (f : CellFormat) (b : Byte) : Bool :=
  match f with
  | .fourBit => false
  | .sixBit => 64 ≤ b.toNat

/-- One canvas cell is written, by the addressing of R49 (R52). -/
def ArtworkStore.writeCell (a : ArtworkStore) (p : Profile) (index : Nat) (code : Code) : ArtworkStore :=
  match p.chain[index / blockCells]? with
  | some block =>
    let cells := (a.cells[block]?.getD (.replicate 64 0)).setIfInBounds (index % blockCells) code
    { a with cells := a.cells.setIfInBounds block cells }
  | none => a

/-- Cells are written from a canvas index on, in canvas order (R52). -/
def ArtworkStore.writeCells (p : Profile) : List Code → Nat → ArtworkStore → ArtworkStore
  | [], _, a => a
  | c :: rest, index, a => writeCells p rest (index + 1) (a.writeCell p index c)

/-- The cells of a slot's canvas (R47). -/
def Profile.canvasCells (p : Profile) : Nat := p.width * p.height

/-- Cells are stored into a slot from its fill position, as many as the canvas has room for (R52). -/
def State.storeCells (n : Nat) (cells : List Code) (s : State) : State :=
  let p := s.slot n
  let kept := cells.take (p.canvasCells - p.fill)
  (s.onArt fun a => ArtworkStore.writeCells p kept p.fill a).setSlot n { p with fill := p.fill + kept.length }

/-- PROFILE_DATA (R52, R168). Fewer data bytes than the length byte says is a transaction that was dropped; bytes after
them are ignored. -/
def execProfileData (length : Byte) (data : List Byte) (s : State) : Out :=
  .next
    (if !profileDataLengthOk length then s.hostTake 2 (refuse .length)
    else if data.length < length.toNat then s
    else
      s.hostTake (2 + length.toNat)
        (match s.loadingSlot with
        | none => refuse .state
        | some n =>
          let p := s.slot n
          let bytes := data.take length.toNat
          let cells := bytes.flatMap (cellsOfByte p.format)
          let stored := min cells.length (p.canvasCells - p.fill)
          .done (s.storeCells n cells)
            [u8 stored, u8 (cells.length - stored), u8 (bytes.filter (byteMasked p.format)).length]))

/-- PROFILE_END (R53). -/
def execProfileEnd (s : State) : Out :=
  .next (s.hostTake 1
    (match s.loadingSlot with
    | none => refuse .state
    | some n =>
      if (s.slot n).fill < (s.slot n).canvasCells then refuse .state
      else done (s.setSlot n { (s.slot n) with state := .ready })))

/-- PROFILE_FREE (R54). -/
def execProfileFree (slot : Byte) (s : State) : Out :=
  .next (s.hostTake 2
    (if slotCount ≤ slot.toNat then refuse .range
    else if (s.slot slot.toNat).inUse then refuse .busy
    else
      let t := if (s.slot slot.toNat).state = .empty then s else s.emptySlot slot.toNat
      .done t (u16 t.art.freeCount)))

/-- SET_WINDOW (R55). -/
def execSetWindow (slot startCol startRow cols rows : Byte) (s : State) : Out :=
  .next (s.hostTake 6
    (if slotCount ≤ slot.toNat then refuse .range
    else if (s.slot slot.toNat).state = .empty then refuse .state
    else if (s.slot slot.toNat).inUse then refuse .busy
    else if !windowOk (s.slot slot.toNat).width (s.slot slot.toNat).height startCol.toNat startRow.toNat cols.toNat
        rows.toNat then refuse .range
    else
      done (s.setSlot slot.toNat
        { (s.slot slot.toNat) with
          startCol := startCol.toNat, startRow := startRow.toNat, cols := cols.toNat, rows := rows.toNat })))

/-- The fields READ PROFILE returns (R56, R183). -/
def Profile.readout (p : Profile) : List Byte :=
  [p.state.byte, u8 p.width, u8 p.height, p.format.byte, u8 p.startCol, u8 p.startRow, u8 p.cols, u8 p.rows,
    u8 p.rowSkip, u8 p.chain.length] ++ u16 p.fill ++ [u8 p.useCount]

/-- READ_PROFILE (R56). -/
def execReadProfile (slot : Byte) (s : State) : Out :=
  .next (s.hostTake 2
    (if slotCount ≤ slot.toNat then refuse .range else .done s (s.slot slot.toNat).readout))

/-- READ_CELLS (R56). DEDUCED (log entry 7): a slot above 47 is refused first, then an EMPTY slot, then the index and
count. -/
def execReadCells (slot : Byte) (index : Half) (count : Byte) (s : State) : Out :=
  .next (s.hostTake 5
    (if slotCount ≤ slot.toNat then refuse .range
    else if (s.slot slot.toNat).state = .empty then refuse .state
    else if count.toNat < 1 || 64 < count.toNat
        || (s.slot slot.toNat).canvasCells < index.toNat + count.toNat then refuse .range
    else
      .done s ((List.range count.toNat).map fun i =>
        u8 (s.art.cell (s.slot slot.toNat) (index.toNat + i)).toNat)))

/-- READ_STORE (R56): the summary, and the map entry of a block where one is named. -/
def execReadStore (block : Half) (s : State) : Out :=
  .next (s.hostTake 3
    (if block = 0xFFFF then .done s (u16 s.art.freeCount ++ [u8OrNone s.loadingSlot])
    else if block.toNat < blockCount then
      .done s (u16 s.art.freeCount ++ [u8OrNone s.loadingSlot, u8OrNone (s.art.owner block.toNat)])
    else refuse .range))

end Sys2Proof.Machine
end

