-- ==== Sys2Proof/Machine/Attention.lean ====
section
/-! DEFINITION. The commands of the attention unit (R164). -/

namespace Sys2Proof.Machine

/-- The set/clear convention: each flag under a 1 in the mask takes the mode, each under a 0 keeps its value. -/
def setClear (mode : Bool) (mask flags : BitVec 16) : BitVec 16 :=
  if mode then flags ||| mask else flags &&& ~~~mask

/-- WRITE_ATTENTION_REQUESTS (R164). -/
def execWriteAttentionRequests (mode : Byte) (mask : Half) (s : State) : Out :=
  .next (s.hostTake 4
    (match twoValued mode with
    | some m => done (s.onAttention fun a => { a with requests := setClear m mask a.requests })
    | none => refuse .range))

/-- WRITE_ATTENTION_ENABLES (R164). -/
def execWriteAttentionEnables (mode : Byte) (mask : Half) (s : State) : Out :=
  .next (s.hostTake 4
    (match twoValued mode with
    | some m => done (s.onAttention fun a => { a with enables := setClear m mask a.enables })
    | none => refuse .range))

/-- SET_MASTER_ENABLE (R164). -/
def execSetMasterEnable (value : Byte) (s : State) : Out :=
  .next (s.hostTake 2
    (match twoValued value with
    | some v => done (s.onAttention fun a => { a with master := v })
    | none => refuse .range))

/-- READ_ATTENTION: requests, enables, master enable, ATTN level (R164, R183). -/
def execReadAttention (s : State) : Out :=
  .next (s.hostTake 1
    (.done s (halfBytes s.attention.requests ++ halfBytes s.attention.enables
      ++ [flagByte s.attention.master, flagByte s.attn])))

/-- TAKE_ATTENTION: the requests as they stand are returned, and those under a 1 in the mask are cleared (R164). -/
def execTakeAttention (mask : Half) (s : State) : Out :=
  .next (s.hostTake 3
    (.done (s.onAttention fun a => { a with requests := setClear false mask a.requests })
      (halfBytes s.attention.requests)))

end Sys2Proof.Machine
end

