-- ==== Sys2Proof/Config.lean ====
section
/-! DEFINITION. The free values: what the reference leaves open. They have no body, so nothing can be proved of their values. -/

namespace Sys2Proof.Config

/-- DESIGN CHOICE (log entry 3): R89 gives no order in which the forced-index effects of one index event reach the
stops. It is seen only where two or more garments are spoiled by one index event: the last-spoil record (R39) keeps the
latest. For each index event of that kind this free value names stops in the order in which they are reached; the stops it
does not name follow, so that every order is one of its values. Its argument counts such events. Safe: nothing constrains
it. -/
opaque forcedIndexOrder : Nat → List Nat

end Sys2Proof.Config
end

