-- ==== Sys2Proof/Machine/Pulses.lean ====
section
/-! DEFINITION. The pulses INDEX and BELT TICK and the ends of the dwell, stale and stall timers: R88 to R94, R129, R134,
R136. -/

namespace Sys2Proof.Machine

namespace State

/-! ## The index event (R88 to R90) -/

/-- A pretreatment cut short is counted as done and marked for inspection; the release test follows (R89). -/
def cutPretreat (g : Garment) (s : State) : State :=
  (s.modGarment g.seq fun g =>
    { g with
      done := { g.done with pretreat := true }
      inspect := { g.inspect with partialPretreat := true } }).releaseTest g.seq

/-- A garment passes the unload stop without leaving its platen: its laps rise by 1, held at 3 (R89, R95, R122). -/
def addLap (seq : Nat) (s : State) : State := s.modGarment seq fun g => { g with laps := min lapsCap (g.laps + 1) }

/-- The forced-index effect of a station kind on the garment before it, at a stop that is DUE (R89). -/
def dueEffect (k : StationKind) (g : Garment) (s : State) : State :=
  match k with
  | .unload => s.addLap g.seq
  | .load => s
  | .pretreat => s
  | .press => s
  | .printW => s
  | .printC => s
  | .tunnel => s
  | .pack => s
  | .unassigned => s

/-- The forced-index effect of a station kind on the garment before it, at a stop that is IN_SERVICE (R89). -/
def inServiceEffect (k : StationKind) (g : Garment) (s : State) : State :=
  match k with
  | .load => if g.isMatched then s.cancelMatch g else s
  | .pretreat => s.cutPretreat g
  | .press => s
  | .printW => s.spoil g.seq .printFault
  | .printC => s.spoil g.seq .printFault
  | .unload => s.addLap g.seq
  | .tunnel => s
  | .pack => s
  | .unassigned => s

/-- The forced-index effect at one stop; a stop in NONE, DONE or MISSED has none (R89). -/
def forcedEffect (s : State) (stop : Nat) : State :=
  match s.stationAt stop, s.garmentAt stop with
  | some l, some g =>
    (match s.service stop with
    | .due => s.dueEffect l.kind g
    | .inService => s.inServiceEffect l.kind g
    | .none => s
    | .done => s
    | .missed => s)
  | some _, none => s
  | none, _ => s

/-- An index event finds work to cut short at a stop: it is IN_SERVICE, or DUE with an ENABLED station that is not
gate-exempt (R90). -/
def cutsShort (s : State) (stop : Nat) : Bool :=
  match s.service stop with
  | .inService => true
  | .due => (s.stationAt stop).any fun l => !l.bypassed && !l.exempt
  | .none => false
  | .done => false
  | .missed => false

/-- The index event spoils the garment at this stop (R89). -/
def spoilsAt (s : State) (stop : Nat) : Bool :=
  s.service stop == .inService
    && (s.stationAt stop).any (fun l => l.kind == .printW || l.kind == .printC)
    && (s.garmentAt stop).any (·.isActive)

/-- The stops 0 to P - 1. -/
def stopNumbers (s : State) : List Nat := List.range s.carousel.platenCount

/-- The order of the effects is open and seen in the last-spoil record: two or more garments are spoiled (log entry 3). -/
def orderOpen (s : State) : Bool := 2 ≤ (s.stopNumbers.filter s.spoilsAt).length

/-- The stops in the order a list names them, those it does not name last. -/
def arrange : List Nat → List Nat → List Nat
  | [], stops => stops
  | n :: named, stops => if stops.contains n then n :: arrange named (stops.erase n) else arrange named stops

/-- The order in which the forced-index effects reach the stops: open where it can be seen (log entry 3). -/
def effectOrder (s : State) : List Nat :=
  if s.orderOpen then arrange (Config.forcedIndexOrder s.choices) s.stopNumbers else s.stopNumbers

/-- Stage 1: the forced-index effects, and FORCED_INDEX raised once where one cut work short (R88, R89, R90). -/
def settleStops (s : State) : State :=
  let t := s.effectOrder.foldl forcedEffect s
  let u := { t with choices := if s.orderOpen then s.choices + 1 else s.choices }
  if s.stopNumbers.any s.cutsShort then u.raise .forcedIndex else u

/-- Stage 2: every platen moves on by one stop (R79, R88). -/
def turn (s : State) : State :=
  s.onCarousel fun c => { c with origin := (c.origin + 1) % c.platenCount }

/-- The dwell timer restarts from 0 and the late marker is cleared (R88, R93, R94). -/
def restartDwell (s : State) : State := s.onCarousel fun c => { c with dwell := 0, late := false }

/-- The index event in its four stages, and the drain test if it retired a garment (R88, R160). -/
def indexEvent (s : State) : State := s.drainAfter (s.settleStops.turn.recomputeAll.restartDwell)

/-! ## Belt travel (R134) -/

/-- The cure rate a segment holds (R127). -/
def segmentRate (s : State) (k : Nat) : Nat := s.tunnel.rates[k]?.getD 0

/-- The cure a garment has after its middle cell stands on `cell` (R134). -/
def curedAt (s : State) (cell cure : Nat) : Nat :=
  match s.tunnel.geometry.segmentAt cell with
  | some k => min cureCap (cure + s.segmentRate k)
  | none => cure

/-- A garment leaves the belt for the exit list (R134, R140). -/
def leaveBelt (seq : Nat) (s : State) : State :=
  ((s.modGarment seq fun g => { g with place := .atExit }).onTunnel fun u =>
    { u with belt := u.belt.filter (· != seq) }).onPack fun p => { p with exitList := p.exitList ++ [seq] }

/-- One garment of the belt list at a BELT TICK (R134). -/
def tickGarment (s : State) (seq : Nat) : State :=
  match s.garment? seq with
  | some g =>
    match g.place.tail? with
    | some tail =>
      if s.tunnel.geometry.belt ≤ tail + 1 then s.leaveBelt seq
      else
        s.modGarment seq fun g =>
          { g with place := .onBelt (tail + 1), cure := s.curedAt (middleCell (tail + 1) g.length) g.cure }
    | none => s
  | none => s

/-- Outside SETUP a BELT TICK restarts the stall timer from 0 and clears the stall marker (R134, R136). -/
def restartStall (s : State) : State :=
  if s.mode = .setup then s else s.onTunnel fun u => { u with stall := some 0, stallMarker := false }

/-- The travel event: the garments of the belt list from front to back, then the stall timer (R134). -/
def travel (s : State) : State := (s.tunnel.belt.foldl tickGarment s).restartStall

/-! ## Ends of timers (R94, R129, R136) -/

/-- Time passes until the dwell timer has counted the dwell limit (R93). -/
def toDwellLimit (s : State) : State := s.advance (s.carousel.dwellLimit * 1000 - s.carousel.dwell)

end State

/-- INDEX (R88). -/
def execIndex (s : State) : Out := .next s.indexEvent

/-- BELT_TICK (R134). -/
def execBeltTick (s : State) : Out := .next s.travel

/-- STATION_LATE (R94): the moment at which the dwell becomes late. It can come only in RUN or DRAIN with INDEX PERMIT low
and the late marker clear; time passes until the dwell timer has counted the limit. Otherwise nothing happens. -/
def execStationLate (s : State) : Out :=
  .next (if s.turning && !s.indexPermit && !s.carousel.late then s.toDwellLimit else s)

/-- TEMP_STALE (R129): the moment at which the running stale timer reaches its limit with the marker clear. Otherwise
nothing happens. -/
def execTempStale (s : State) : Out :=
  .next
    (match s.tunnel.stale with
    | some t => if s.tunnel.staleMarker then s else s.advance (s.tunnel.staleLimit * 1000 - t)
    | none => s)

/-- STALL (R136): the moment at which the running stall timer reaches its limit with the marker clear and a garment's
middle cell in the heat zone. Otherwise nothing happens. -/
def execStall (s : State) : Out :=
  .next
    (match s.tunnel.stall with
    | some t =>
      if !s.tunnel.stallMarker && s.garments.any s.inHeat then s.advance (s.tunnel.stallLimit * 1000 - t) else s
    | none => s)

end Sys2Proof.Machine
end

