-- ==== Sys2Proof/Machine/CarouselCommands.lean ====
section
/-! DEFINITION. The host commands of the carousel tracker and the station links (R78 to R84, R93, R95, R96, R104, R118). -/

namespace Sys2Proof.Machine

/-- The link a byte names; none above 7 (R82). -/
def link? (b : Byte) : Option LinkNo := if h : b.toNat < 8 then some ⟨b.toNat, h⟩ else none

/-- A new platen count: origin 0, every platen empty and unblocked, every stop NONE (R78). -/
def State.resize (p : Nat) (s : State) : State :=
  (s.onCarousel fun c => { c with platenCount := p, origin := 0, platens := .replicate 16 {} }).clearStops

/-- SET_PLATEN_COUNT (R78, R170). -/
def execSetPlatenCount (count : Byte) (s : State) : Out :=
  .next (s.hostTake 2
    (if s.mode ≠ .setup then refuse .mode
    else if count.toNat < 4 || 16 < count.toNat then refuse .range
    else done (s.resize count.toNat)))

/-- SET_ORIGIN (R79, R170). -/
def execSetOrigin (origin : Byte) (s : State) : Out :=
  .next (s.hostTake 2
    (if s.mode ≠ .setup then refuse .mode
    else if s.carousel.platenCount ≤ origin.toNat then refuse .range
    else done (s.onCarousel fun c => { c with origin := origin.toNat })))

/-- ASSIGN_STATION: kind and stop written, ENABLED, gate-exempt clear (R82, R170). -/
def execAssignStation (link kind stop : Byte) (s : State) : Out :=
  .next (s.hostTake 4
    (if s.mode ≠ .setup then refuse .mode
    else
      match link? link, stationKind? kind with
      | some l, some k =>
        if k.isCarousel && 15 < stop.toNat then refuse .range
        else
          let n := if k.isCarousel then stop.toNat else 0
          done (s.modLink l fun r => { r with kind := k, stop := n, bypassed := false, exempt := false })
      | some _, none => refuse .range
      | none, _ => refuse .range))

/-- BLOCK or UNBLOCK of a platen (R81): the flag is written, and the LOAD stop is recomputed at once if the platen stands
at stop 0. -/
def State.blockPlaten (p : Nat) (blocked : Bool) (s : State) : State :=
  let t := s.setPlatenBlocked p blocked
  (if t.platenAt 0 = p then t.recomputeLoad else t).lateTest

/-- The checks of BLOCK PLATEN and UNBLOCK PLATEN (R81): a flag that already has the value is left as it is. -/
def State.blockCommand (p : Nat) (blocked : Bool) (s : State) : HostResult :=
  if s.carousel.platenCount ≤ p then refuse .range
  else if (s.platen p).garment.isSome then refuse .state
  else if (s.platen p).blocked = blocked then done s
  else done (s.blockPlaten p blocked)

/-- BLOCK_PLATEN (R81). -/
def execBlockPlaten (platen : Byte) (s : State) : Out := .next (s.hostTake 2 (s.blockCommand platen.toNat true))

/-- UNBLOCK_PLATEN (R81). -/
def execUnblockPlaten (platen : Byte) (s : State) : Out := .next (s.hostTake 2 (s.blockCommand platen.toNat false))

/-- A carousel station is bypassed: its stop in DUE or MISSED becomes NONE at once (R83). -/
def State.bypassStop (stop : Nat) (s : State) : State :=
  if s.service stop = .due ∨ s.service stop = .missed then s.setService stop .none else s

/-- A carousel station is enabled: its stop is recomputed at once if it is NONE (R83). -/
def State.enableStop (stop : Nat) (s : State) : State :=
  if s.service stop = .none then s.recompute stop else s

/-- A link's service mode changes, with the effects on its stop where it serves a carousel station (R83). -/
def State.changeMode (l : LinkNo) (bypassed : Bool) (s : State) : State :=
  let t := s.modLink l fun r => { r with bypassed := bypassed }
  let u :=
    if (s.link l).kind.isCarousel then
      (if bypassed then t.bypassStop (s.link l).stop else t.enableStop (s.link l).stop)
    else t
  u.lateTest

/-- SET_STATION_MODE (R83). -/
def execSetStationMode (link mode : Byte) (s : State) : Out :=
  .next (s.hostTake 3
    (match link? link, twoValued mode with
    | some l, some b =>
      if (s.link l).kind = .unassigned then refuse .state
      else if (s.link l).bypassed = b then done s
      else done (s.changeMode l b)
    | some _, none => refuse .range
    | none, _ => refuse .range))

/-- SET_GATE_EXEMPT (R84). -/
def execSetGateExempt (link value : Byte) (s : State) : Out :=
  .next (s.hostTake 3
    (match link? link, twoValued value with
    | some l, some b =>
      if !(s.link l).kind.isCarousel then refuse .state
      else if (s.link l).exempt = b then done s
      else done (s.modLink l fun r => { r with exempt := b }).lateTest
    | some _, none => refuse .range
    | none, _ => refuse .range))

/-- SET_DWELL_LIMIT: a new limit acts at once on the dwell in progress (R93, R94). -/
def execSetDwellLimit (seconds : Half) (s : State) : Out :=
  .next (s.hostTake 3
    (if seconds.toNat < 1 || 600 < seconds.toNat then refuse .range
    else done (s.onCarousel fun c => { c with dwellLimit := seconds.toNat }).lateTest))

/-- SET_LAP_LIMIT (R95). -/
def execSetLapLimit (limit : Byte) (s : State) : Out :=
  .next (s.hostTake 2
    (if lapsCap < limit.toNat then refuse .range
    else done (s.onCarousel fun c => { c with lapLimit := limit.toNat })))

/-- READ_CAROUSEL (R96, R183). -/
def execReadCarousel (s : State) : Out :=
  .next (s.hostTake 1
    (.done s ([u8 s.carousel.platenCount, u8 s.carousel.origin, flagByte s.indexPermit] ++ u24 s.carousel.dwell
      ++ u16 s.carousel.dwellLimit ++ [flagByte s.carousel.late, u8 s.carousel.lapLimit]
      ++ s.stopNumbers.flatMap (fun n => [u8 (s.platenAt n), (s.service n).byte])
      ++ s.stopNumbers.flatMap fun p => flagByte (s.platen p).blocked :: ticketBytes (s.platen p).garment)))

/-- READ_STATIONS: kind, stop, service mode, gate-exempt flag of each link (R96, R183). -/
def execReadStations (s : State) : Out :=
  .next (s.hostTake 1
    (.done s (s.station.links.toList.flatMap fun l =>
      [l.kind.byte, u8 l.stop, flagByte l.bypassed, flagByte l.exempt])))

/-- SET_INK_TOLERANCE (R118). -/
def execSetInkTolerance (tolerance : Byte) (s : State) : Out :=
  .next (s.hostTake 2
    (if 100 < tolerance.toNat then refuse .range
    else done (s.onStation fun t => { t with inkTolerance := tolerance.toNat })))

/-- READ_INK_TOLERANCE (R118). -/
def execReadInkTolerance (s : State) : Out := .next (s.hostTake 1 (.done s [u8 s.station.inkTolerance]))

/-- The fields READ LINK returns (R104, R183). -/
def Link.readout (l : Link) : List Byte :=
  [l.lastRequest.getD absentByte, (l.lastReply.map (·.byte)).getD absentByte]
    ++ ticketBytes (l.lastFault.map (·.1)) ++ [(l.lastFault.map (·.2)).getD absentByte]

/-- READ_LINK (R104). -/
def execReadLink (link : Byte) (s : State) : Out :=
  .next (s.hostTake 2
    (match link? link with
    | some l => .done s (s.link l).readout
    | none => refuse .range))

end Sys2Proof.Machine
end

