-- ==== Sys2Proof/Machine/Garments.lean ====
section
/-! DEFINITION. The commands of the garment table: the blank tables, SPOIL GARMENT and the last-spoil record (R23 to R25,
R38, R39). -/

namespace Sys2Proof.Machine

/-- SET_STYLE (R23). -/
def execSetStyle (style fabric length : Byte) (s : State) : Out :=
  .next (s.hostTake 4
    (if 7 < fabric.toNat || length.toNat < 1 || 15 < length.toNat then refuse .range
    else
      done (s.onTable fun t =>
        { t with styles := t.styles.setIfInBounds style.toNat { fabric := fabric.toNat, length := length.toNat } })))

/-- SET_COLOUR (R24). -/
def execSetColour (colour cls : Byte) (s : State) : Out :=
  .next (s.hostTake 3
    (match colourClass? cls with
    | some c => done (s.onTable fun t => { t with colours := t.colours.setIfInBounds colour.toNat c })
    | none => refuse .range))

/-- SET_FABRIC (R25). -/
def execSetFabric (fabric factor : Byte) (baseCure : Half) (s : State) : Out :=
  .next (s.hostTake 5
    (if 7 < fabric.toNat then refuse .range
    else
      let e : FabricEntry := { factor := factor.toNat, baseCure := baseCure.toNat }
      done (s.onTable fun t => { t with fabrics := t.fabrics.setIfInBounds fabric.toNat e })))

/-- READ_STYLE: fabric class, length (R23). -/
def execReadStyle (style : Byte) (s : State) : Out :=
  .next (s.hostTake 2 (.done s [u8 (s.style style.toNat).fabric, u8 (s.style style.toNat).length]))

/-- READ_COLOUR: colour class (R24). -/
def execReadColour (colour : Byte) (s : State) : Out :=
  .next (s.hostTake 2 (.done s [(s.colourClass colour.toNat).byte]))

/-- READ_FABRIC: F, base cure (R25). -/
def execReadFabric (fabric : Byte) (s : State) : Out :=
  .next (s.hostTake 2
    (if 7 < fabric.toNat then refuse .range
    else .done s (u8 (s.fabric fabric.toNat).factor :: u16 (s.fabric fabric.toNat).baseCure)))

namespace State

/-- SPOIL GARMENT finds the garment's stop IN_SERVICE: the stop becomes DONE and its void marker takes the ticket (R38,
R107). -/
def voidStop (stop seq : Nat) (s : State) : State :=
  if s.service stop = .inService then (s.setService stop .done).setVoid stop (some seq) else s

/-- SPOIL GARMENT on a MATCHED garment (R38). -/
def spoilMatched (g : Garment) (s : State) : State :=
  ((((s.voidStop 0 g.seq).spoil g.seq .loadAbandoned).setPlatenGarment (s.platenAt 0) none).retire g.seq).setService 0
    .done

/-- SPOIL GARMENT on an ACTIVE garment, by its place (R38). -/
def hostSpoil (g : Garment) (s : State) : State :=
  match g.place with
  | .matched _ => s.drainAfter (s.spoilMatched g)
  | .onPlaten p => (s.voidStop (s.stopOf p) g.seq).spoil g.seq .host
  | .onBelt _ => s.spoil g.seq .host
  | .atExit => s.spoil g.seq .host
  | .returning => s.spoil g.seq .host

end State

/-- SPOIL_GARMENT (R38). -/
def execSpoilGarment (s : State) : Out :=
  .next (s.hostTake 1
    (match s.garmentAtCursor with
    | none => refuse .noCursor
    | some g => if g.isActive then done (s.hostSpoil g) else refuse .state))

/-- READ_LAST_SPOIL: ticket, order number, line index, reason, count (R39, R183). -/
def execReadLastSpoil (s : State) : Out :=
  .next (s.hostTake 1
    (.done s (ticketBytes s.garmentTable.lastSpoil.ticket ++ orderNumberBytes s.garmentTable.lastSpoil.order
      ++ [u8OrNone s.garmentTable.lastSpoil.line, u8OrNone (s.garmentTable.lastSpoil.reason.map (·.code))]
      ++ u16 s.garmentTable.lastSpoil.count)))

end Sys2Proof.Machine
end

