-- ==== Sys2Proof/Machine/OrderBook.lean ====
section
/-! DEFINITION. The order-book commands (R6 to R18). Each checks its cursors, the order's state, the ranges and the room,
in that order (R6). -/

namespace Sys2Proof.Machine

/-- The largest order total and ordered count (R1, R2). -/
def maxTotal : Nat := 99

/-- The highest profile number (R2). -/
def maxProfile : Nat := 47

/-- The highest recipe code and mask (R2). -/
def maxCode : Nat := 63

namespace State

/-- A command that acts on the order at the order cursor (R6). -/
def withOrder (s : State) (k : Order → HostResult) : HostResult :=
  match s.orderAtCursor with
  | some o => k o
  | none => refuse .noCursor

/-- A command that acts on the line at the line cursor, given as its index (R6). -/
def withLine (s : State) (k : Order → Nat → Line → HostResult) : HostResult :=
  match s.orderAtCursor, s.host.lineCursor with
  | some o, some i =>
    (match o.lines[i]? with
    | some l => k o i l
    | none => refuse .noCursor)
  | some _, none => refuse .noCursor
  | none, _ => refuse .noCursor

end State

/-- DRAFT, OPEN and HELD admit edits of quantities, art and priority (section 1.4). -/
def OrderState.editable : OrderState → Bool
  | .draft => true | .opened => true | .held => true | .cancelling => false | .cancelled => false | .complete => false

/-- The art settings of a line from their bytes (R2, R178). -/
def artOf (profile orientation mask choke x y : Byte) : ArtSettings :=
  { profile := profile.toNat, orient := orientationOf orientation, mask := BitVec.ofNat 6 mask.toNat
    choke := signedByte choke, x := x.toNat, y := y.toNat }

/-- The profile number and the recipe mask lie in their ranges (R8, R12). -/
def artInRange (profile mask : Byte) : Bool := profile.toNat ≤ maxProfile && mask.toNat ≤ maxCode

/-- ADD_ORDER (R7). -/
def execAddOrder (number : Bcd5) (cls : Byte) (s : State) : Out :=
  .next (s.hostTake 7
    (match orderNumber? number with
    | none => refuse .range
    | some n =>
      if n = 0 then refuse .range
      else if 3 < cls.toNat then refuse .range
      else if (s.order? n).isSome then refuse .existing
      else if orderPoolSize ≤ s.book.orders.length then refuse .full
      else
        done ((s.onBook fun b => { b with orders := b.orders ++ [{ number := n, cls := cls.toNat }] }).setOrderCursors
          (some n) none)))

/-- ADD_LINE (R8). -/
def execAddLine (style colour size profile orientation mask choke x y ordered : Byte) (s : State) : Out :=
  .next (s.hostTake 11
    (s.withOrder fun o =>
      if o.state ≠ .draft then refuse .state
      else if 15 < size.toNat || !artInRange profile mask || ordered.toNat < 1 || maxTotal < ordered.toNat
          || maxTotal < o.total + ordered.toNat then refuse .range
      else if maxLines ≤ o.lines.length || linePoolSize ≤ s.linesInUse then refuse .full
      else
        let line : Line :=
          { key := { style := style.toNat, colour := colour.toNat, size := size.toNat }
            art := artOf profile orientation mask choke x y
            ordered := ordered.toNat }
        done ((s.modOrder o.number fun o => { o with lines := o.lines ++ [line] }).setLineCursor
          (some o.lines.length))))

/-- DELETE_LINE (R9). -/
def execDeleteLine (s : State) : Out :=
  .next (s.hostTake 1
    (s.withLine fun o i _ =>
      if o.state ≠ .draft then refuse .state
      else
        done ((s.modOrder o.number fun o => { o with lines := o.lines.eraseIdx i }).setLineCursor
          (if i + 1 < o.lines.length then some i else none))))

/-- COMMIT (R10). -/
def execCommit (s : State) : Out :=
  .next (s.hostTake 1
    (s.withOrder fun o =>
      if o.state ≠ .draft ∨ o.lines = [] then refuse .state
      else
        done ((s.modOrder o.number fun o => { o with state := .opened }).onBook fun b =>
          { b with admission := b.admission ++ [o.number] })))

/-- The order with one line's ordered count replaced (R11). -/
def Order.withQty (o : Order) (i n : Nat) : Order :=
  { o with lines := o.lines.modify i fun l => { l with ordered := n } }

/-- EDIT_LINE_QTY (R11). -/
def execEditLineQty (ordered : Byte) (s : State) : Out :=
  .next (s.hostTake 2
    (s.withLine fun o i l =>
      if !o.state.editable then refuse .state
      else if ordered.toNat < 1 || maxTotal < ordered.toNat || ordered.toNat < l.allocated + l.finished
          || maxTotal < (o.withQty i ordered.toNat).total
          || ((o.state == .opened || o.state == .held) && (o.withQty i ordered.toNat).satisfied) then refuse .range
      else done (s.modOrder o.number fun o => o.withQty i ordered.toNat)))

/-- EDIT_LINE_ART (R12). -/
def execEditLineArt (profile orientation mask choke x y : Byte) (s : State) : Out :=
  .next (s.hostTake 7
    (s.withLine fun o i _ =>
      if !o.state.editable then refuse .state
      else if !artInRange profile mask then refuse .range
      else done (s.modLine (o.number, i) fun l => { l with art := artOf profile orientation mask choke x y })))

/-- SET_PRIORITY (R13). -/
def execSetPriority (cls : Byte) (s : State) : Out :=
  .next (s.hostTake 2
    (s.withOrder fun o =>
      if !o.state.editable then refuse .state
      else if 3 < cls.toNat then refuse .range
      else done (s.modOrder o.number fun o => { o with cls := cls.toNat })))

/-- HOLD_ORDER (R14). -/
def execHoldOrder (s : State) : Out :=
  .next (s.hostTake 1
    (s.withOrder fun o =>
      match o.state with
      | .opened => done (s.modOrder o.number fun o => { o with state := .held })
      | .held => done s
      | .draft => refuse .state
      | .cancelling => refuse .state
      | .cancelled => refuse .state
      | .complete => refuse .state))

/-- RELEASE_ORDER (R15). -/
def execReleaseOrder (s : State) : Out :=
  .next (s.hostTake 1
    (s.withOrder fun o =>
      match o.state with
      | .held => done (s.modOrder o.number fun o => { o with state := .opened })
      | .opened => done s
      | .draft => refuse .state
      | .cancelling => refuse .state
      | .cancelled => refuse .state
      | .complete => refuse .state))

/-- An OPEN or HELD order becomes CANCELLING, the reassignment pass runs, and the cancellation end condition is applied
(R16). -/
def State.cancel (o : Order) (s : State) : State :=
  ((s.modOrder o.number fun o => { o with state := .cancelling }).reassignmentPass o.number).cancellationEnd o.number

/-- CANCEL_ORDER (R16). -/
def execCancelOrder (s : State) : Out :=
  .next (s.hostTake 1
    (s.withOrder fun o =>
      match o.state with
      | .draft => done (s.removeOrder o)
      | .opened => done (s.cancel o).lateTest
      | .held => done (s.cancel o).lateTest
      | .cancelling => done s
      | .cancelled => done s
      | .complete => refuse .state))

/-- No line of the order has a garment finished or allocated (R18). -/
def Order.unstarted (o : Order) : Bool := o.lines.all fun l => l.finished == 0 && l.allocated == 0

/-- RETIRE_ORDER (R18). -/
def execRetireOrder (s : State) : Out :=
  .next (s.hostTake 1
    (s.withOrder fun o =>
      match o.state with
      | .complete => done (s.removeOrder o)
      | .cancelled => done (s.removeOrder o)
      | .draft => done (s.removeOrder o)
      | .opened => if o.unstarted then done (s.removeOrder o) else refuse .state
      | .held => if o.unstarted then done (s.removeOrder o) else refuse .state
      | .cancelling => refuse .state))

end Sys2Proof.Machine
end

