-- ==== Sys2Proof/Machine/HostLink.lean ====
section
/-! DEFINITION. The host link: cursors, seeks, record and list readouts (R143, R171 to R176, R183), and what the port drives
on SDO (R167). -/

namespace Sys2Proof.Machine

/-- What SDO reads in byte position `k` of a transaction whose command was taken with the given answer (R167): 00h while
the command and its parameters are clocked in, then the turnaround byte, the status, the reply bytes, and 00h. -/
def HostAnswer.sdo (a : HostAnswer) (k : Nat) : Byte :=
  if k < a.bytesIn then 0
  else if k = a.bytesIn then 0xFF
  else if k = a.bytesIn + 1 then a.status.byte
  else a.reply.getD (k - a.bytesIn - 2) 0

/-! ## Order and line cursors (R172) -/

/-- The line cursor after a seek finds an order: 0, or NONE if it has no lines (R172). -/
def Order.firstIndex (o : Order) : Option Nat := if o.lines = [] then none else some 0

/-- SEEK_ORDER (R172). -/
def execSeekOrder (number : Bcd5) (s : State) : Out :=
  .next (s.hostTake 6
    (match orderNumber? number with
    | none => refuse .range
    | some n =>
      match s.order? n with
      | none => refuse .notFound
      | some o => done (s.setOrderCursors (some n) o.firstIndex)))

/-- The part of the admission list a walk passes: behind the order cursor, or the whole list when the cursor is NONE or
stands on an order without an admission position (R172). -/
def State.walkFrom (s : State) : List Nat :=
  match s.host.orderCursor with
  | none => s.book.admission
  | some n =>
    if s.book.admission.contains n then (s.book.admission.dropWhile (· != n)).drop 1 else s.book.admission

/-- The first order of a walk whose state passes the filter (R172). -/
def State.walkTo (s : State) (passes : OrderState → Bool) : Option Order :=
  s.walkFrom.findSome? fun n => (s.order? n).filter fun o => passes o.state

/-- SEEK_NEXT_ORDER (R172). -/
def execSeekNextOrder (filter : Byte) (s : State) : Out :=
  .next (s.hostTake 2
    (match seekFilter? filter with
    | none => refuse .range
    | some passes =>
      match s.walkTo passes with
      | none => refuse .notFound
      | some o => .done (s.setOrderCursors (some o.number) (some 0)) (orderNumberBytes (some o.number))))

/-- SEEK_LINE (R172). -/
def execSeekLine (index : Byte) (s : State) : Out :=
  .next (s.hostTake 2
    (s.withOrder fun o =>
      if o.lines.length ≤ index.toNat then refuse .range else done (s.setLineCursor (some index.toNat))))

/-- The fields READ ORDER returns (R172, R183). DESIGN CHOICE (log entry 13; unsafe): the order total and the two sums are sent
as binary counts; R177 has a packed-decimal kind for the m of n of m as well and does not say which kind they are. -/
def Order.readout (o : Order) : List Byte :=
  orderNumberBytes (some o.number) ++
    [u8 o.cls, o.state.byte, u8 o.lines.length, u8 o.total, u8 o.allocatedSum, u8 o.finishedSum, u8OrNone o.bin,
      flagByte o.overflow]

/-- READ_ORDER (R172). -/
def execReadOrder (s : State) : Out := .next (s.hostTake 1 (s.withOrder fun o => .done s o.readout))

/-- The fields READ LINE returns (R172, R183). -/
def Line.readout (l : Line) (index : Nat) : List Byte :=
  [u8 index, u8 l.key.style, u8 l.key.colour, u8 l.key.size, u8 l.art.profile, l.art.orient.byte, u8 l.art.mask.toNat,
    chokeByte l.art.choke, u8 l.art.x, u8 l.art.y, u8 l.ordered, u8 l.allocated, u8 l.finished, u8 l.spoiled,
    u8 l.outstanding]

/-- READ_LINE: the line is returned, and the line cursor advances, past the last line to NONE (R172). -/
def execReadLine (s : State) : Out :=
  .next (s.hostTake 1
    (s.withLine fun o i l =>
      .done (s.setLineCursor (if i + 1 < o.lines.length then some (i + 1) else none)) (l.readout i)))

/-! ## The garment cursor (R173) -/

/-- SEEK_GARMENT (R173). -/
def execSeekGarment (ticket : Bcd5) (s : State) : Out :=
  .next (s.hostTake 6
    (match ticketSeq? ticket with
    | none => refuse .range
    | some seq => if (s.garment? seq).isSome then done (s.setGarmentCursor (some seq)) else refuse .notFound))

/-- SEEK_GARMENT_AT_PLATEN (R173). -/
def execSeekGarmentAtPlaten (platen : Byte) (s : State) : Out :=
  .next (s.hostTake 2
    (if s.carousel.platenCount ≤ platen.toNat then refuse .range
    else
      match (s.platen platen.toNat).garment with
      | none => refuse .notFound
      | some seq => done (s.setGarmentCursor (some seq))))

/-- SEEK_ORDER_OF_GARMENT (R173). -/
def execSeekOrderOfGarment (s : State) : Out :=
  .next (s.hostTake 1
    (match s.garmentAtCursor with
    | none => refuse .noCursor
    | some g =>
      match g.bound with
      | none => refuse .notFound
      | some b => done (s.setOrderCursors (some b.1) (some b.2))))

/-- The sheet released flag (R26): the claim is given up. -/
def Garment.released (g : Garment) : Bool := g.claim.isNone

/-- The fields READ GARMENT returns (R173, R183): 48 bytes. -/
def Garment.readout (g : Garment) : List Byte :=
  ticketBytes (some g.seq) ++ [u8 g.key.style, u8 g.key.colour, u8 g.key.size]
    ++ orderNumberBytes (g.bound.map (·.1))
    ++ [u8OrNone (g.bound.map (·.2)), g.place.byte, u8OrNone g.place.platen?, g.disposition.byte, g.required.byte,
      g.done.byte, u8 g.laps, u8 g.recures, g.inspect.byte, u8OrNone (g.disposition.reason?.map (·.code)),
      u8 g.figures.rows, u8 g.figures.cols, g.figures.orient.byte, u8 g.figures.profile]
    ++ [u8 g.figures.x, u8 g.figures.y] ++ u24 g.figures.wsum ++ u24 g.figures.usum ++ u24 g.figures.dsum
    ++ u16 g.figures.capped ++ [u8 g.figures.passes] ++ u16 g.figures.cureDemand ++ [flagByte g.released]
    ++ u16 g.cure ++ [u8OrNone g.place.tail?, u8 g.length]

/-- READ_GARMENT (R173). -/
def execReadGarment (s : State) : Out :=
  .next (s.hostTake 1
    (match s.garmentAtCursor with
    | none => refuse .noCursor
    | some g => .done s g.readout))

/-! ## State and list readouts (R174, R175) -/

/-- The fields READ STATE returns (R174, R183): 35 bytes. -/
def State.readout (s : State) : List Byte :=
  [s.mode.byte] ++ u32 s.timebase ++ [u8 s.freeGarments, u8 (orderPoolSize - s.book.orders.length)]
    ++ u16 (linePoolSize - s.linesInUse) ++ [u8 s.book.admission.length] ++ generatorBytes s.garmentTable.generator
    ++ [flagByte s.indexPermit, flagByte s.attn, u8 s.tunnel.belt.length, u8 s.pack.exitList.length,
      u8 s.pack.returnList.length]
    ++ ticketBytes (s.pack.presented.map (·.seq)) ++ orderNumberBytes s.host.orderCursor
    ++ [u8OrNone s.host.lineCursor] ++ ticketBytes s.host.garmentCursor

/-- READ_STATE (R174). -/
def execReadState (s : State) : Out := .next (s.hostTake 1 (.done s s.readout))

/-- A list readout: a position above 63 is refused; below the count, the entry at it follows the count (R175). -/
def State.readList (s : State) (list : List Nat) (position : Byte) (entry : Garment → List Byte) : HostResult :=
  if 63 < position.toNat then refuse .range
  else
    .done s (u8 list.length ::
      (match list[position.toNat]?.bind s.garment? with
      | some g => entry g
      | none => []))

/-- READ_BELT_LIST (R175). -/
def execReadBeltList (position : Byte) (s : State) : Out :=
  .next (s.hostTake 2
    (s.readList s.tunnel.belt position fun g =>
      ticketBytes (some g.seq) ++ [g.disposition.byte, u8 g.length, u8OrNone g.place.tail?] ++ u16 g.cure
        ++ u16 g.figures.cureDemand ++ [g.inspect.byte]))

/-- READ_EXIT_LIST (R175). -/
def execReadExitList (position : Byte) (s : State) : Out :=
  .next (s.hostTake 2
    (s.readList s.pack.exitList position fun g =>
      ticketBytes (some g.seq) ++ [g.disposition.byte] ++ u16 g.cure ++ [u8 g.recures]))

/-- READ_RETURN_LIST (R175). -/
def execReadReturnList (position : Byte) (s : State) : Out :=
  .next (s.hostTake 2
    (s.readList s.pack.returnList position fun g =>
      ticketBytes (some g.seq) ++ [g.disposition.byte, u8 g.length] ++ u16 g.cure ++ [u8 g.recures]))

/-- READ_BINS: the free count, then each entry's state, order number and count (R143, R183). -/
def execReadBins (s : State) : Out :=
  .next (s.hostTake 1
    (.done s (u8 (s.pack.bins.toList.filter (·.isNone)).length ::
      s.pack.bins.toList.flatMap fun e =>
        flagByte e.isSome :: (orderNumberBytes (e.map (·.order)) ++ [u8 ((e.map (·.count)).getD 0)]))))

/-- READ_IDENT: vendor code, part code, silicon revision (R176). -/
def execReadIdent (s : State) : Out := .next (s.hostTake 1 (.done s [0x52, 0x03, 0x16, 0x01]))

end Sys2Proof.Machine
end

