-- ==== Sys2Proof/Machine/LoadStation.lean ====
section
/-! DEFINITION. The requests of the load station: BLANK SCAN, LOAD DONE, LOAD SKIP (R30 to R35, R108 to R110). -/

namespace Sys2Proof.Machine

namespace State

/-- The item count n of an order: finished + allocated over its lines (R33). -/
def itemCount (o : Order) : Nat := o.finishedSum + o.allocatedSum

/-- The reply payload of a match: ticket, order number, n, m, route (R33, R108). -/
def matchReply (s : State) (seq : Nat) (number : Nat) (route : StepSet) : List Byte :=
  ticketBytes (some seq) ++ orderNumberBytes (some number)
    ++ (match s.order? number with
      | some o => [itemByte (itemCount o), itemByte o.total]
      | none => [0, 0])
    ++ [route.byte]

/-- A second scan cancels a MATCHED garment that waits at stop 0, and stop 0 returns to DUE (R30 step 1). -/
def cancelWaiting (s : State) : State :=
  match s.garmentAt 0 with
  | some g => if g.isMatched then (s.cancelMatch g).setService 0 .due else s
  | none => s

/-- The garment table's part of a BLANK SCAN after step 1: POOL FULL, STRAY or a match (R30 steps 2 to 4, R32, R33). -/
def scanBlank (key : BlankKey) (s : State) : Served :=
  if s.freeGarments = 0 then unserved s .poolFull
  else
    match s.chosenLine key with
    | none => unserved (s.raise .stray) .stray
    | some bound =>
      match s.line? bound with
      | none => unserved (s.raise .stray) .stray
      | some l =>
        let t := s.makeMatch key bound l.art
        servedOk t (t.matchReply s.issuedSeq bound.1 (s.computeSheet l.art key).route)

/-- BLANK SCAN at the carousel tracker, for the platen at stop 0 (R108). -/
def blankScan (key : BlankKey) (s : State) : Served :=
  let p := s.platen (s.platenAt 0)
  if p.blocked then unserved s .blocked
  else if (s.garmentAt 0).any (fun g => !g.isMatched) then unserved s .occupied
  else if s.service 0 = .none ∨ s.service 0 = .done then unserved s .notDue
  else (s.cancelWaiting.scanBlank key).lateTest

/-- LOAD DONE accepted: MATCHED becomes ON_PLATEN on the same platen, stop 0 DONE (R109). -/
def confirmLoad (g : Garment) (s : State) : State :=
  (s.modGarment g.seq fun g => { g with place := .onPlaten (s.platenAt 0) }).setService 0 .done

/-- LOAD SKIP, by the state of stop 0 (R110). -/
def loadSkip (s : State) : Served :=
  match s.service 0 with
  | .inService =>
    let t := match s.garmentAt 0 with
      | some g => if g.isMatched then s.cancelMatch g else s
      | none => s
    servedOk (s.drainAfter (t.setService 0 .done)) []
  | .due => servedOk (s.setService 0 .done) []
  | .none => unserved s .notDue
  | .done => unserved s .notDue
  | .missed => unserved s .notDue

end State

/-- The blank key of a BLANK SCAN payload (R177, R182). -/
def payloadKey (payload : List Byte) : BlankKey :=
  { style := (payloadByte payload 0).toNat, colour := (payloadByte payload 1).toNat
    size := (payloadByte payload 2).toNat }

/-- BLANK_SCAN (R108). -/
def execBlankScan (link : LinkNo) (payload : List Byte) (s : State) : Out :=
  .next (s.serve link .blankScan payload (State.blankScan (payloadKey payload)))

/-- LOAD_DONE (R106, R109). -/
def execLoadDone (link : LinkNo) (payload : List Byte) (s : State) : Out :=
  .next (s.serve link .loadDone payload fun s =>
    s.report 0 false payload fun g => servedOk (s.confirmLoad g) [])

/-- LOAD_SKIP (R110). -/
def execLoadSkip (link : LinkNo) (payload : List Byte) (s : State) : Out :=
  .next (s.serve link .loadSkip payload State.loadSkip)

end Sys2Proof.Machine
end

