-- ==== Sys2Proof/Machine/Modes.lean ====
section
/-! DEFINITION. The mode commands and LINE RESET: R22, R46, R64, R98, R139, R156, R158, R159, R161. -/

namespace Sys2Proof.Machine

/-! ## The START conditions (R159) -/

namespace State

/-- The links assigned a kind (R82). -/
def linksOf (s : State) (k : StationKind) : List Link := s.station.links.toList.filter (·.kind == k)

/-- The carousel kinds in the order of condition 5 (R159). -/
def carouselOrder : List StationKind := [.load, .pretreat, .press, .printW, .printC, .unload]

/-- The stops of the carousel stations in the order of condition 5 (R159). -/
def stopsInOrder (s : State) : List Nat := carouselOrder.flatMap fun k => (s.linksOf k).map (·.stop)

end State

/-- Each number is higher than every number before it (R159). -/
def rising : List Nat → Bool
  | [] => true
  | n :: rest => rest.all (n < ·) && rising rest

namespace State

/-- The number of the first START condition that fails; none if the configuration is valid (R159). -/
def configFailure (s : State) : Option Nat :=
  if !([StationKind.load, .unload, .tunnel, .pack].all (fun k => (s.linksOf k).length == 1)) then some 1
  else if !([StationKind.pretreat, .press, .printW, .printC].all (fun k => (s.linksOf k).length ≤ 1)) then some 2
  else if !(s.linksOf .load).all (·.stop == 0) then some 3
  else if !s.stopsInOrder.all (· < s.carousel.platenCount) then some 4
  else if !rising s.stopsInOrder then some 5
  else if !s.tunnel.geometry.isSet then some 6
  else if s.tunnel.curve.length < 2 then some 7
  else none

/-- SETUP to RUN (R87, R93, R94, R129, R136, R158). -/
def startLine (s : State) : State :=
  (((s.setMode .run).recomputeLoad).restartDwell).onTunnel fun u =>
    { u with stale := some 0, stall := some 0, staleMarker := false, stallMarker := false }

/-! ## LINE RESET, block by block (R161) -/

/-- The order book at LINE RESET: every allocated count 0, every CANCELLING order CANCELLED with its bin none (R22). -/
def resetOrder (o : Order) : Order :=
  let lines := o.lines.map fun l => { l with allocated := 0 }
  if o.state = .cancelling then { o with lines, state := .cancelled, bin := none } else { o with lines }

/-- The bins of CANCELLING orders are freed without BIN_CLEAR (R22, R156). -/
def freeCancellingBins (s : State) : State :=
  s.book.orders.foldl
    (fun t o =>
      match o.bin with
      | some b => if o.state = .cancelling then t.freeBin b else t
      | none => t) s

/-- Every use count is set to 0, and every bank with a mark applies its pending edits (R64). -/
def resetUse (s : State) : State :=
  let t := (s.onArt fun a => { a with slots := a.slots.map fun p => { p with useCount := 0 } }).onRecipes fun r =>
    { r with banks := r.banks.map fun b => { applyEntries b with useCount := 0 } }
  if s.recipes.banks.toList.any fun b => markedCount b != 0 then t.raise .bankApplied else t

/-- The carousel tracker at LINE RESET (R98, R107, R121). -/
def resetCarousel (s : State) : State :=
  ((s.onCarousel fun c => { c with platens := c.platens.map fun e => { e with garment := none } }).clearStops).restartDwell

/-- The tunnel tracker at LINE RESET (R139). -/
def resetTunnel (s : State) : State :=
  (s.onTunnel fun u => { u with belt := [], conflicts := {} }).stopTunnelTimers

/-- The pack unit at LINE RESET, but for the bins (R156). -/
def resetPack (s : State) : State :=
  s.onPack fun p => { p with exitList := [], returnList := [], presented := none }

/-- LINE RESET: the requests are cleared, and a flag raised as part of the command stands after it (R161). -/
def resetLine (s : State) : State :=
  let t := ((s.onAttention fun a => { a with requests := 0 }).setMode .setup).freeCancellingBins
  let u := (t.onBook fun b => { b with orders := b.orders.map resetOrder }).onTable fun g => { g with garments := [] }
  (u.resetUse.resetCarousel.resetTunnel.resetPack).setGarmentCursor none

end State

/-- START (R158, R159). -/
def execStart (s : State) : Out :=
  .next (s.hostTake 1
    (match s.mode with
    | .run => done s
    | .setup =>
      match s.configFailure with
      | some n => .refuse .config [u8 n]
      | none => done s.startLine
    | .hold => refuse .mode
    | .drain => refuse .mode))

/-- HOLD (R158). -/
def execHold (s : State) : Out :=
  .next (s.hostTake 1
    (match s.mode with
    | .hold => done s
    | .run => done (s.setMode .hold).recomputeLoad
    | .setup => refuse .mode
    | .drain => refuse .mode))

/-- RESUME (R158). -/
def execResume (s : State) : Out :=
  .next (s.hostTake 1
    (match s.mode with
    | .run => done s
    | .hold => done (s.setMode .run).recomputeLoad.lateTest
    | .setup => refuse .mode
    | .drain => refuse .mode))

/-- RUN or HOLD to DRAIN, with the drain test (R158, R160). -/
def State.beginDrain (s : State) : State := (s.setMode .drain).recomputeLoad.drainTest.lateTest

/-- DRAIN (R158, R160). -/
def execDrain (s : State) : Out :=
  .next (s.hostTake 1
    (match s.mode with
    | .drain => done s
    | .run => done s.beginDrain
    | .hold => done s.beginDrain
    | .setup => refuse .mode))

/-- LINE_RESET (R161). -/
def execLineReset (s : State) : Out := .next (s.hostTake 1 (done s.resetLine))

end Sys2Proof.Machine
end

