-- ==== Sys2Proof/Machine/PackStation.lean ====
section
/-! DEFINITION. The requests of the pack station: PACK SCAN, PACK CONFIRM, RETURN PLACED (R142, R144 to R152). -/

namespace Sys2Proof.Machine

/-- The most passes through the tunnel after the first (R26, R145). -/
def maxRecures : Nat := 2

/-- A verdict with its reject cause (R145). -/
structure Judgement where
  verdict : Verdict
  cause : Option RejectCause := none
  deriving DecidableEq, Repr

namespace State

/-- The order of a garment's bound line (R26). -/
def orderOf (s : State) (g : Garment) : Option Order := g.bound.bind fun b => s.order? b.1

/-- The lowest-numbered free bin (R146). -/
def lowestFreeBin (s : State) : Option Nat := (List.range 32).find? fun b => (s.bin b).isNone

/-- A free bin is assigned to an order with count 0; entry and order name each other (R143, R146). -/
def assignBin (b number : Nat) (s : State) : State :=
  (s.setBin b (some { order := number })).modOrder number fun o => { o with bin := some b }

/-- No bin is free: the order's overflow flag is set and BIN_FULL is raised (R146). -/
def overflowOrder (number : Nat) (s : State) : State :=
  (s.modOrder number fun o => { o with overflow := true }).raise .binFull

/-- The order's bin decides between PACK and OVERFLOW (R146). -/
def binChoice (o : Order) (s : State) : Verdict × State :=
  if o.overflow then (.overflow, s)
  else
    match o.bin with
    | some _ => (.pack, s)
    | none =>
      match s.lowestFreeBin with
      | some b => (.pack, s.assignBin b o.number)
      | none => (.overflow, s.overflowOrder o.number)

/-- Tests 4, 5 and 6 of R145. -/
def packChoice (o : Order) (s : State) : Verdict × State :=
  if o.total = 1 then (.single, s)
  else if o.finishedSum + 1 = o.total then (.ship, s)
  else s.binChoice o

/-- The verdict for a scanned garment: the first test that applies (R145). -/
def judge (g : Garment) (s : State) : Judgement × State :=
  match s.orderOf g with
  | none => ({ verdict := .reject, cause := some .noOrder }, s)
  | some o =>
    if !g.isActive then ({ verdict := .reject, cause := some .disposition }, s)
    else if o.state = .cancelling ∨ o.state = .cancelled then ({ verdict := .reject, cause := some .cancelled }, s)
    else if g.cure < g.figures.cureDemand then
      (if g.recures < maxRecures then ({ verdict := .recure }, s.raise .undercure)
      else ({ verdict := .reject, cause := some .undercureLimit }, s.raise .undercure))
    else if g.inspect ≠ {} then ({ verdict := .inspect }, s)
    else ({ verdict := (s.packChoice o).1 }, (s.packChoice o).2)

/-- The bin a reply names: the order's bin after R146, or none; none for cause NO_ORDER (R145). -/
def binOf (s : State) (g : Garment) : Option Nat := (s.orderOf g).bind (·.bin)

end State

/-- The item count n and total m of a verdict's reply (R145): n is 00 for REJECT, and m is 00 where there is no order. -/
def itemCounts (v : Verdict) (o : Option Order) : List Byte :=
  match o with
  | none => [0, 0]
  | some o => [if v = .reject then 0 else itemByte (o.finishedSum + 1), itemByte o.total]

namespace State

/-- A scan that reaches a verdict: the presented record is written whole, and the reply carries verdict, reject cause, order
number, n, m, bin and on-belt flag (R142, R145, R182). -/
def present (g : Garment) (onBelt : Bool) (s : State) : Served :=
  let j := s.judge g
  let t := j.2
  let bin := t.binOf g
  let record : Presented := { seq := g.seq, verdict := j.1.verdict, cause := j.1.cause, bin }
  servedOk (t.onPack fun p => { p with presented := some record })
    ([j.1.verdict.byte, u8OrNone (j.1.cause.map (·.code))] ++ orderNumberBytes ((s.orderOf g).map (·.number))
      ++ itemCounts j.1.verdict (s.orderOf g) ++ [u8OrNone bin, flagByte onBelt])

/-- PACK SCAN of a ticket, by the garment's place (R144). -/
def packScan (seq : Nat) (s : State) : Served :=
  match s.garment? seq with
  | none => unserved s .unknown
  | some g =>
    match g.place with
    | .matched _ => unserved s .onCarousel
    | .onPlaten _ => unserved s .onCarousel
    | .returning => unserved s .returnPending
    | .atExit => s.present g false
    | .onBelt _ => s.present g true

/-! ## Confirmations (R147 to R151) -/

/-- The presented record is set to none (R142). -/
def clearPresented (s : State) : State := s.onPack fun p => { p with presented := none }

/-- The count of a recorded bin rises by 1, held at 99 (R143, R148). -/
def fillBin (b : Option Nat) (s : State) : State :=
  match b with
  | none => s
  | some b =>
    match s.bin b with
    | some h => s.setBin b (some { h with count := min binCountCap (h.count + 1) })
    | none => s

/-- A SHIP confirmation frees the bin its order holds, without BIN_CLEAR (R148). -/
def shipBin (g : Garment) (s : State) : State :=
  match s.orderOf g with
  | none => s
  | some o =>
    match o.bin with
    | none => s
    | some b => (s.freeBin b).modOrder o.number fun o => { o with bin := none }

/-- The counter change of a finish, without the tests that follow it (R19). -/
def finishLine (bound : Option (Nat × Nat)) (s : State) : State :=
  match bound with
  | some b =>
    (s.modLine b fun l => { l with allocated := l.allocated - 1, finished := l.finished + 1 }).completionTest b.1
  | none => s

/-- The cancellation end condition of a garment's order (R17). -/
def testCancellation (bound : Option (Nat × Nat)) (s : State) : State :=
  match bound with
  | some b => s.cancellationEnd b.1
  | none => s

/-- A garment is finished by a verdict (R148): the finish and the completion test; for PACK the recorded bin's count; the
cancellation end condition; for SHIP the bin freed; the garment retired. DEDUCED (log entry 9): the count of a PACK rises
before the cancellation end condition, as R148 says of a CANCELLING order. -/
def finish (g : Garment) (v : Verdict) (bin : Option Nat) (s : State) : State :=
  let t := s.finishLine g.bound
  let u := (if v = .pack then t.fillBin bin else t).testCancellation g.bound
  (if v = .ship then u.shipBin g else u).retire g.seq

/-- ACCEPT (R149): tests 4 to 6 are evaluated afresh, and the garment is finished by the resulting verdict. -/
def acceptGarment (g : Garment) (s : State) : Served :=
  match s.orderOf g with
  | none => servedOk (s.retire g.seq) []
  | some o =>
    let c := s.packChoice o
    let bin := c.2.binOf g
    servedOk (c.2.finish g c.1 bin) (c.1.byte :: (itemCounts c.1 (some o) ++ [u8OrNone bin]))

/-- REJECT, by its recorded cause (R150). -/
def rejectGarment (g : Garment) (cause : Option RejectCause) (s : State) : State :=
  (match cause with
    | some .undercureLimit => s.spoil g.seq .undercureLimit
    | some .cancelled => if g.isActive then s.giveBack g.bound else s
    | some .disposition => s
    | some .noOrder => s
    | none => s).retire g.seq

/-- RECURE (R151): the garment goes to the return list. -/
def recureGarment (g : Garment) (s : State) : State :=
  ((s.modGarment g.seq fun g => { g with recures := g.recures + 1, place := .returning }).onTunnel fun u =>
    { u with belt := u.belt.filter (· != g.seq) }).onPack fun p =>
      { p with exitList := p.exitList.filter (· != g.seq), returnList := p.returnList ++ [g.seq] }

end State

/-- The action fits the verdict: ACCEPT or SPOIL for INSPECT, otherwise the action equal to the verdict (R147). -/
def actionFits (verdict action : Verdict) : Bool :=
  if verdict = .inspect then action == .accept || action == .spoil else action == verdict

/-- The actions that ask for a garment still ACTIVE (R147). -/
def needsActive : Verdict → Bool
  | .single => true | .ship => true | .pack => true | .overflow => true | .accept => true | .recure => true
  | .spoil => false | .reject => false | .inspect => false

namespace State

/-- The effect of an action on the presented garment, the record being none by now (R147 to R151). -/
def confirmEffect (r : Presented) (g : Garment) (action : Verdict) (s : State) : Served :=
  match action with
  | .single => servedOk (s.finish g .single r.bin) []
  | .ship => servedOk (s.finish g .ship r.bin) []
  | .pack => servedOk (s.finish g .pack r.bin) []
  | .overflow => servedOk (s.finish g .overflow r.bin) []
  | .accept => s.acceptGarment g
  | .spoil => servedOk ((s.spoil g.seq .host).retire g.seq) []
  | .reject => servedOk (s.rejectGarment g r.cause) []
  | .recure => servedOk (s.recureGarment g) []
  | .inspect => unserved s .range

end State

/-- The drain test after an event that retired a garment (R160). -/
def Served.drainAfter (before : State) (r : Served) : Served := { r with state := before.drainAfter r.state }

namespace State

/-- PACK CONFIRM of a ticket with an action (R147). -/
def packConfirm (seq : Nat) (action : Verdict) (s : State) : Served :=
  match s.pack.presented with
  | none => unserved s .notPresented
  | some r =>
    if r.seq ≠ seq then unserved s .notPresented
    else if !actionFits r.verdict action then unserved s .wrongAction
    else
      match s.garment? seq with
      | none => unserved s.clearPresented .changed
      | some g =>
        if needsActive action && !g.isActive then unserved s.clearPresented .changed
        else (s.clearPresented.confirmEffect r g action).drainAfter s

/-! ## RETURN PLACED (R152) -/

/-- A returning garment leaves the return list and is placed on the belt (R132, R152). -/
def placeReturn (g : Garment) (s : State) : State :=
  (s.onPack fun p => { p with returnList := p.returnList.filter (· != g.seq) }).placeOnBelt true g.seq g.length

/-- RETURN PLACED of a ticket; `laid` is the mode LAID (R152). -/
def returnPlaced (seq : Nat) (laid : Bool) (s : State) : Served :=
  match s.garment? seq with
  | none => unserved s .unknown
  | some g =>
    if g.place ≠ .returning then unserved s .notReturning
    else if !laid && !s.entryClear g.length then unserved s .wait
    else servedOk (s.placeReturn g) []

end State

/-- PACK_SCAN (R144). -/
def execPackScan (link : LinkNo) (payload : List Byte) (s : State) : Out :=
  .next (s.serve link .packScan payload fun s =>
    match payloadTicket payload with
    | none => unserved s .badTicket
    | some seq => s.packScan seq)

/-- PACK_CONFIRM (R147): an action code that names no action is answered RANGE. -/
def execPackConfirm (link : LinkNo) (payload : List Byte) (s : State) : Out :=
  .next (s.serve link .packConfirm payload fun s =>
    match payloadTicket payload, packAction? (payloadByte payload 5) with
    | none, _ => unserved s .badTicket
    | some _, none => unserved s .range
    | some seq, some action => s.packConfirm seq action)

/-- RETURN_PLACED (R152): a mode code that names no mode is answered RANGE. -/
def execReturnPlaced (link : LinkNo) (payload : List Byte) (s : State) : Out :=
  .next (s.serve link .returnPlaced payload fun s =>
    match payloadTicket payload, twoValued (payloadByte payload 5) with
    | none, _ => unserved s .badTicket
    | some _, none => unserved s .range
    | some seq, some laid => s.returnPlaced seq laid)

end Sys2Proof.Machine
end

