-- ==== Sys2Proof/Machine/Recipes.lean ====
section
/-! DEFINITION. The commands of the recipe table (R57, R58, R60) and of the sheet engine (R66). -/

namespace Sys2Proof.Machine

/-- The bank a byte names; none above 3 (R57). -/
def bank? (b : Byte) : Option (Fin 4) := if h : b.toNat < 4 then some ⟨b.toNat, h⟩ else none

/-- A recipe entry of a bank (R57). -/
def Bank.entry (b : Bank) (code : Nat) : RecipeEntry := b.entries[code]?.getD {}

/-- Write a recipe entry of a bank (R57). -/
def Bank.setEntry (b : Bank) (code : Nat) (e : RecipeEntry) : Bank :=
  { b with entries := b.entries.setIfInBounds code e }

/-- Every pending mark of a bank is cleared (R60). -/
def Bank.discard (b : Bank) : Bank := { b with entries := b.entries.map fun e => { e with pending := none } }

/-- A recipe write goes to the live copy at use count 0 and to the pending copy above it; the reply names the copy (R58,
R178). -/
def State.writeRecipe (b : Fin 4) (code : Nat) (r : Recipe) (s : State) : HostResult :=
  if (s.bank b).useCount = 0 then
    .done (s.setBank b ((s.bank b).setEntry code { ((s.bank b).entry code) with live := r })) [0]
  else .done (s.setBank b ((s.bank b).setEntry code { ((s.bank b).entry code) with pending := some r })) [1]

/-- WRITE_RECIPE_FINE (R58). -/
def execWriteRecipeFine (bank code w u p : Byte) (s : State) : Out :=
  .next (s.hostTake 6
    (match bank? bank with
    | none => refuse .range
    | some b =>
      if 63 < code.toNat then refuse .range
      else s.writeRecipe b code.toNat { w := w.toNat, u := u.toNat, p := p.toNat }))

/-- WRITE_RECIPE_COARSE: each value v of 0 to 15 is stored as v × 17 (R58). -/
def execWriteRecipeCoarse (bank code w u p : Byte) (s : State) : Out :=
  .next (s.hostTake 6
    (match bank? bank with
    | none => refuse .range
    | some b =>
      if 63 < code.toNat || 15 < w.toNat || 15 < u.toNat || 15 < p.toNat then refuse .range
      else s.writeRecipe b code.toNat { w := w.toNat * 17, u := u.toNat * 17, p := p.toNat * 17 }))

/-- DISCARD_PENDING (R60). -/
def execDiscardPending (bank : Byte) (s : State) : Out :=
  .next (s.hostTake 2
    (match bank? bank with
    | none => refuse .range
    | some b => done (s.setBank b (s.bank b).discard)))

/-- READ_RECIPE: live values, pending mark, pending values, which read 0 where the mark is clear (R57, R183). -/
def execReadRecipe (bank code : Byte) (s : State) : Out :=
  .next (s.hostTake 3
    (match bank? bank with
    | none => refuse .range
    | some b =>
      if 63 < code.toNat then refuse .range
      else
        let e := (s.bank b).entry code.toNat
        let q := e.pending.getD {}
        .done s [u8 e.live.w, u8 e.live.u, u8 e.live.p, flagByte e.pending.isSome, u8 q.w, u8 q.u, u8 q.p]))

/-- READ_BANK: use count, number of marked entries (R57, R183). -/
def execReadBank (bank : Byte) (s : State) : Out :=
  .next (s.hostTake 2
    (match bank? bank with
    | none => refuse .range
    | some b => .done s [u8 (s.bank b).useCount, u8 (State.markedCount (s.bank b))]))

/-- SET_ECONOMY (R66). -/
def execSetEconomy (value : Byte) (s : State) : Out :=
  .next (s.hostTake 2
    (match twoValued value with
    | some v => done (s.onSheet fun e => { e with economy := v })
    | none => refuse .range))

/-- The highest ink cap (R66). -/
def maxInkCap : Nat := 510

/-- SET_INK_CAP (R66). -/
def execSetInkCap (cap : Half) (s : State) : Out :=
  .next (s.hostTake 3
    (if maxInkCap < cap.toNat then refuse .range else done (s.onSheet fun e => { e with inkCap := cap.toNat })))

/-- SET_CURE_COEFFICIENTS (R66). -/
def execSetCureCoefficients (kW kU : Byte) (s : State) : Out :=
  .next (s.hostTake 3 (done (s.onSheet fun e => { e with kW := kW.toNat, kU := kU.toNat })))

/-- READ_SHEET_SETTINGS: E, I, kW, kU (R66). -/
def execReadSheetSettings (s : State) : Out :=
  .next (s.hostTake 1
    (.done s (flagByte s.sheet.economy :: (u16 s.sheet.inkCap ++ [u8 s.sheet.kW, u8 s.sheet.kU]))))

end Sys2Proof.Machine
end

