-- ==== Sys2Proof/Machine/Resets.lean ====
section
/-! DEFINITION. Power-on, the RESET pin, frames and transactions that are not acted on, and the internal events that have a
row of their own. -/

namespace Sys2Proof.Machine

/-- Every block at its values after power-on (R157). The queue and the count of open choices are the model's own and stay. -/
def State.restarted (s : State) : State := { State.reset with pending := s.pending, choices := s.choices }

/-- POWER_ON (R21, R45, R63, R97, R138, R156, R157). -/
def execPowerOn (s : State) : Out := .next s.restarted

/-- RESET_PIN gives the same values as power-on (R157). -/
def execResetPin (s : State) : Out := .next s.restarted

/-- BAD_FRAME: answered BAD FRAME with the request code as received; nothing it asks for is acted on (R101). In ANSWERING
its bytes are discarded (R102). -/
def execBadFrame (link : LinkNo) (code : Byte) (s : State) : Out :=
  .next (if s.answering link then s else s.reply link code .badFrame [])

/-- UNKNOWN_REQUEST_CODE: the first three checks of R103, then WRONG STATION. In ANSWERING its bytes are discarded (R102). -/
def execUnknownRequestCode (link : LinkNo) (code : Byte) (_payload : List Byte) (s : State) : Out :=
  .next (if s.answering link then s else s.reply link code ((s.linkCheck link).getD .wrongStation) [])

/-- REPLY_SENT: the receiver leaves ANSWERING and returns to HUNTING (R99). -/
def execReplySent (link : LinkNo) (s : State) : Out :=
  .next (if s.answering link then s.modLink link fun k => { k with receiver := .hunting } else s)

/-- A byte taken as in HUNTING: 7Eh opens a frame, any other byte is discarded (R99, R100). -/
def State.hearByte (link : LinkNo) (b : Byte) (s : State) : State :=
  s.modLink link fun k => { k with receiver := if b = startByte then .collecting 0 else .hunting }

/-- LINK_GAP_TIMEOUT (R100): time passes until the gap of the frame in collection is more than 10 ms and the frame is
discarded, without a reply; the byte that ends the gap is then taken as in HUNTING. In HUNTING no gap is timed; in
ANSWERING the byte is discarded. -/
def execLinkGapTimeout (link : LinkNo) (ending : Byte) (s : State) : Out :=
  .next
    (match (s.link link).receiver with
    | .hunting => s.hearByte link ending
    | .collecting gap => (s.advance (gapLimit + 1 - gap)).hearByte link ending
    | .answering _ => s)

/-- TRANSACTION_DROPPED: no status is returned and no state changes (R168). -/
def execTransactionDropped (s : State) : Out := .next s

/-- UNKNOWN_COMMAND: answered UNKNOWN (R168). -/
def execUnknownCommand (_command : Byte) (s : State) : Out := .next (s.answer 1 .unknown [])

/-- DRAIN_END: the drain test (R160). -/
def execDrainEnd (s : State) : Out := .next s.drainTest

/-- BANK_APPLIED: a bank with use count 0 applies its pending edits (R59). -/
def execBankApplied (bank : Fin 4) (s : State) : Out :=
  .next (if (s.bank bank).useCount = 0 then s.applyPending bank else s)

/-- CANCELLATION_END: the cancellation end condition of an order (R17). -/
def execCancellationEnd (order : Nat) (s : State) : Out := .next (s.cancellationEnd order)

end Sys2Proof.Machine
end

