-- ==== Sys2Proof/Machine/TunnelCommands.lean ====
section
/-! DEFINITION. The host commands of the tunnel tracker (R123, R125, R128, R129, R133, R136, R137) and the request TEMP
REPORT (R126 to R128). -/

namespace Sys2Proof.Machine

/-- A segment length lies in 1 to 200 (R123). -/
def segmentOk (n : Nat) : Bool := 1 ≤ n && n ≤ 200

/-- A belt geometry that SET BELT GEOMETRY accepts (R123). -/
def BeltGeometry.ok (g : BeltGeometry) : Bool :=
  16 ≤ g.belt && g.belt ≤ 240 && 8 ≤ g.entry && g.entry ≤ 64 && 1 ≤ g.heat && g.heat ≤ 200 && g.exit ≤ 223
    && 1 ≤ g.segments && g.segments ≤ 4 && g.gap ≤ 7 && g.entry + g.heat + g.exit == g.belt
    && (g.lengths.toList.take g.segments).all segmentOk
    && (g.lengths.toList.take g.segments).sum == g.heat

/-- The lengths of the segments in use; those beyond the segment count are not read and stand as 0 (R178, R183). -/
def segmentLengths (count : Nat) (l0 l1 l2 l3 : Nat) : Vector Nat 4 :=
  #v[if 0 < count then l0 else 0, if 1 < count then l1 else 0, if 2 < count then l2 else 0, if 3 < count then l3 else 0]

/-- SET_BELT_GEOMETRY (R123, R170). -/
def execSetBeltGeometry (belt entry heat exit segments seg0 seg1 seg2 seg3 gap : Byte) (s : State) : Out :=
  .next (s.hostTake 11
    (if s.mode ≠ .setup then refuse .mode
    else
      let g : BeltGeometry :=
        { isSet := true, belt := belt.toNat, entry := entry.toNat, heat := heat.toNat, exit := exit.toNat
          segments := segments.toNat, gap := gap.toNat
          lengths := segmentLengths segments.toNat seg0.toNat seg1.toNat seg2.toNat seg3.toNat }
      if g.ok then done (s.onTunnel fun u => { u with geometry := g }) else refuse .range))

/-- The points of a cure curve, three bytes to a point: temperature and rate (R168, R177). -/
def curvePoints : List Byte → List CurvePoint
  | hi :: lo :: rate :: rest => { temp := hi.toNat * 256 + lo.toNat, rate := rate.toNat } :: curvePoints rest
  | _ => []

/-- Temperatures strictly increase and rates do not decrease from each point to the next (R125). -/
def curveRises : List CurvePoint → Bool
  | p :: q :: rest => p.temp < q.temp && p.rate ≤ q.rate && curveRises (q :: rest)
  | _ => true

/-- The highest temperature (R125, R127). -/
def maxTemp : Nat := 300

/-- A cure curve that SET CURE CURVE accepts (R125). -/
def curveOk (c : List CurvePoint) : Bool :=
  2 ≤ c.length && c.length ≤ 8 && c.all (·.temp ≤ maxTemp) && curveRises c

/-- SET_CURE_CURVE (R125, R168). Fewer data bytes than the length byte says is a transaction that was dropped; bytes after
them are ignored. -/
def execSetCureCurve (length : Byte) (data : List Byte) (s : State) : Out :=
  .next
    (if !cureCurveLengthOk length then s.hostTake 2 (refuse .length)
    else if data.length < length.toNat then s
    else
      s.hostTake (2 + length.toNat)
        (if curveOk (curvePoints (data.take length.toNat)) then
          done (s.onTunnel fun u => { u with curve := curvePoints (data.take length.toNat) })
        else refuse .range))

/-- SET_OVERTEMP_LIMIT (R128). -/
def execSetOvertempLimit (limit : Half) (s : State) : Out :=
  .next (s.hostTake 3
    (if maxTemp < limit.toNat then refuse .range
    else done (s.onTunnel fun u => { u with overtempLimit := limit.toNat })))

/-- SET_STALE_LIMIT (R129). -/
def execSetStaleLimit (seconds : Byte) (s : State) : Out :=
  .next (s.hostTake 2
    (if seconds.toNat < 1 || 30 < seconds.toNat then refuse .range
    else done (s.onTunnel fun u => { u with staleLimit := seconds.toNat }).staleTest))

/-- SET_STALL_LIMIT (R136). -/
def execSetStallLimit (seconds : Byte) (s : State) : Out :=
  .next (s.hostTake 2
    (if seconds.toNat < 1 || 120 < seconds.toNat then refuse .range
    else done (s.onTunnel fun u => { u with stallLimit := seconds.toNat }).stallTest))

/-- READ_TUNNEL (R137, R183). A stopped timer is sent as 0 (R179). -/
def execReadTunnel (s : State) : Out :=
  .next (s.hostTake 1
    (let u := s.tunnel
    let g := u.geometry
    .done s
      ([flagByte g.isSet, u8 g.belt, u8 g.entry, u8 g.heat, u8 g.exit, u8 g.segments]
        ++ g.lengths.toList.map u8 ++ [u8 g.gap, u8 u.curve.length]
        ++ u.curve.flatMap (fun p => u16 p.temp ++ [u8 p.rate])
        ++ (List.range g.segments).flatMap (fun k => u16 (u.temps[k]?.getD 0) ++ [u8 (u.rates[k]?.getD 0)])
        ++ u24 (u.stale.getD 0) ++ [flagByte u.staleMarker, u8 u.staleLimit]
        ++ u24 (u.stall.getD 0) ++ [flagByte u.stallMarker, u8 u.stallLimit]
        ++ u16 u.overtempLimit ++ [u8 u.belt.length, u8OrNone s.backTail])))

/-- READ_CONFLICTS: the set is returned and then emptied (R133). -/
def execReadConflicts (s : State) : Out :=
  .next (s.hostTake 1
    (.done (s.onTunnel fun u => { u with conflicts := {} }) [s.tunnel.conflicts.byte]))

/-! ## TEMP REPORT (R126 to R128) -/

/-- The rate of a temperature by the cure curve (R126). -/
def curveRate : List CurvePoint → Nat → Nat
  | [], _ => 0
  | [p], t => if t < p.temp then 0 else p.rate
  | p :: q :: rest, t =>
    if t < p.temp then 0
    else if t < q.temp then p.rate + (t - p.temp) * (q.rate - p.rate) / (q.temp - p.temp)
    else curveRate (q :: rest) t

/-- The temperatures of a report: two bytes each, above 300 taken as 300 (R127). -/
def reportTemps : List Byte → List Nat
  | hi :: lo :: rest => min maxTemp (hi.toNat * 256 + lo.toNat) :: reportTemps rest
  | _ => []

/-- Values written to the segments in segment order, from number `k` up (R127). -/
def writeSegments (values : List Nat) (k : Nat) (v : Vector Nat 4) : Vector Nat 4 :=
  match values with
  | [] => v
  | x :: rest => writeSegments rest (k + 1) (v.setIfInBounds k x)

/-- A used report: held temperatures and rates written, the stale timer restarted, the stale marker cleared, and the
overtemperature test (R127, R128, R129). -/
def State.useReport (temps : List Nat) (s : State) : State :=
  let rates := temps.map (curveRate s.tunnel.curve)
  let t := s.onTunnel fun u =>
    { u with
      temps := writeSegments temps 0 u.temps
      rates := writeSegments rates 0 u.rates
      stale := some 0
      staleMarker := false }
  if temps.any (s.tunnel.overtempLimit < ·) then t.raise .overtemp else t

/-- TEMP REPORT at the tunnel tracker: a count of temperatures other than the segment count is answered LENGTH (R127). -/
def serveTempReport (payload : List Byte) (s : State) : Served :=
  let temps := reportTemps payload
  if temps.length ≠ s.tunnel.geometry.segments then unserved s .length
  else servedOk (s.useReport temps) (temps.map fun t => u8 (curveRate s.tunnel.curve t))

/-- TEMP_REPORT (R127). -/
def execTempReport (link : LinkNo) (payload : List Byte) (s : State) : Out :=
  .next (s.serve link .tempReport payload (serveTempReport payload))

end Sys2Proof.Machine
end

