-- ==== Sys2Proof/Machine/WorkStations.lean ====
section
/-! DEFINITION. The requests of the pretreatment, press and print stations (R105, R106, R111 to R117, R119). -/

namespace Sys2Proof.Machine

/-- The stop of a request: the stop named in its link's station assignment (section 6.2). -/
def State.stopOfLink (s : State) (l : LinkNo) : Nat := (s.link l).stop

/-! ## Pretreatment (R111 to R113) -/

/-- The reply payload of SHEET: ticket, R', C', Dsum, orientation (R111). -/
def sheetReply (g : Garment) : List Byte :=
  ticketBytes (some g.seq) ++ [u8 g.figures.rows, u8 g.figures.cols] ++ u24 g.figures.dsum ++ [g.figures.orient.byte]

/-- SHEET (R105, R111). -/
def execSheet (link : LinkNo) (payload : List Byte) (s : State) : Out :=
  .next (s.serve link .sheet payload fun s => s.beginService (s.stopOfLink link) sheetReply)

/-- DOSE ROW of a row at a stop (R77, R112). A garment with a released sheet has no claim to serve a row from. -/
def State.serveDoseRow (stop row : Nat) (s : State) : Served :=
  if s.service stop ≠ .inService then unserved s .notInService
  else
    match s.garmentAt stop with
    | none => unserved s .notInService
    | some g =>
      match g.claim with
      | none => unserved s .notInService
      | some c =>
        if g.figures.rows ≤ row then unserved s .range else servedOk s ((s.doseRow c g.figures row).map u8)

/-- DOSE_ROW (R112). -/
def execDoseRow (link : LinkNo) (payload : List Byte) (s : State) : Out :=
  .next (s.serve link .doseRow payload fun s => s.serveDoseRow (s.stopOfLink link) (payloadByte payload 0).toNat)

/-- The garment record after `rows` rows were sprayed (R113). -/
def Garment.sprayed (rows : Nat) (g : Garment) : Garment :=
  if rows = 0 then g
  else
    { g with
      done := { g.done with pretreat := true }
      inspect := { g.inspect with partialPretreat := g.inspect.partialPretreat || decide (rows < g.figures.rows) } }

/-- DOSE DONE accepted (R113): the release test follows a count that marks PRETREAT done. -/
def State.doseDone (stop rows : Nat) (g : Garment) (s : State) : Served :=
  if g.figures.rows < rows then unserved s .range
  else
    let t := s.modGarment g.seq (Garment.sprayed rows)
    servedOk ((if rows = 0 then t else t.releaseTest g.seq).setService stop .done) []

/-- DOSE_DONE (R106, R113). -/
def execDoseDone (link : LinkNo) (payload : List Byte) (s : State) : Out :=
  .next (s.serve link .doseDone payload fun s =>
    s.report (s.stopOfLink link) false payload fun g =>
      s.doseDone (s.stopOfLink link) (payloadByte payload 5).toNat g)

/-! ## Press (R114, R115) -/

/-- PRESS_START (R105, R114). -/
def execPressStart (link : LinkNo) (payload : List Byte) (s : State) : Out :=
  .next (s.serve link .pressStart payload fun s =>
    s.beginService (s.stopOfLink link) fun g => ticketBytes (some g.seq))

/-- PRESS DONE accepted (R115). -/
def State.pressDone (stop : Nat) (g : Garment) (s : State) : Served :=
  servedOk (((s.modGarment g.seq fun g => { g with done := { g.done with press := true } }).releaseTest g.seq).setService
    stop .done) []

/-- PRESS_DONE (R106, R115). -/
def execPressDone (link : LinkNo) (payload : List Byte) (s : State) : Out :=
  .next (s.serve link .pressDone payload fun s =>
    s.report (s.stopOfLink link) false payload fun g => s.pressDone (s.stopOfLink link) g)

/-! ## Print (R116, R117, R119) -/

/-- The expected ink at a print station (R116). -/
def expectedInk (k : StationKind) (f : SheetFigures) : Nat := if k = .printW then f.wsum * f.passes else f.usum

/-- The white passes a print station is told (R116). -/
def passesTold (k : StationKind) (f : SheetFigures) : Nat := if k = .printW then f.passes else 0

/-- The reply payload of JOB FETCH (R116, R182): C and R are R' and C' exchanged back when EXCHANGE is set. -/
def jobReply (k : StationKind) (g : Garment) : List Byte :=
  let f := g.figures
  ticketBytes (some g.seq) ++ [u8 f.profile, f.orient.byte]
    ++ (if f.orient.exchange then [u8 f.rows, u8 f.cols] else [u8 f.cols, u8 f.rows])
    ++ [u8 f.x, u8 f.y, u8 (passesTold k f)] ++ u16 f.capped ++ u24 (expectedInk k f)

/-- JOB_FETCH (R105, R116). -/
def execJobFetch (link : LinkNo) (payload : List Byte) (s : State) : Out :=
  .next (s.serve link .jobFetch payload fun s =>
    s.beginService (s.stopOfLink link) (jobReply (s.link link).kind))

/-- The ink deviation test: |U - X| × 100 is greater than T × X (R117). -/
def deviates (used expected tolerance : Nat) : Bool :=
  tolerance * expected < ((used - expected) + (expected - used)) * 100

/-- The steps done after a print at a station of the given kind (R117). -/
def StepSet.printed (k : StationKind) (t : StepSet) : StepSet :=
  if k = .printW then { t with white := true } else { t with color := true }

/-- PRINT DONE accepted (R117). -/
def State.printDone (k : StationKind) (stop used : Nat) (g : Garment) (s : State) : Served :=
  let dev := deviates (used * 16) (expectedInk k g.figures) s.station.inkTolerance
  servedOk
    (((s.modGarment g.seq fun g =>
        { g with
          done := g.done.printed k
          inspect := { g.inspect with inkDeviation := g.inspect.inkDeviation || dev } }).setService stop .done
      ).releaseTest g.seq)
    [flagByte dev]

/-- PRINT_DONE (R106, R117). -/
def execPrintDone (link : LinkNo) (payload : List Byte) (s : State) : Out :=
  .next (s.serve link .printDone payload fun s =>
    s.report (s.stopOfLink link) false payload fun g =>
      s.printDone (s.link link).kind (s.stopOfLink link) (payloadHalf payload 5) g)

/-- PRINT FAULT accepted (R119): a spoil, the stop DONE, and the link's last-fault entry (R104). -/
def State.printFault (link : LinkNo) (fault : Byte) (g : Garment) (s : State) : Served :=
  servedOk
    (((s.spoil g.seq .printFault).setService (s.stopOfLink link) .done).modLink link fun r =>
      { r with lastFault := some (g.seq, fault) })
    []

/-- PRINT_FAULT (R106, R119). -/
def execPrintFault (link : LinkNo) (payload : List Byte) (s : State) : Out :=
  .next (s.serve link .printFault payload fun s =>
    s.report (s.stopOfLink link) false payload fun g => s.printFault link (payloadByte payload 5) g)

end Sys2Proof.Machine
end

