-- ==== Sys2Proof/Machine/UnloadStation.lean ====
section
/-! DEFINITION. The requests of the unload station: UNLOAD QUERY and UNLOAD DONE (R120 to R122). -/

namespace Sys2Proof.Machine

namespace State

/-- The instruction for the garment at the UNLOAD stop: the first line of the table that applies (R120). -/
def chooseInstruction (s : State) : Option Garment → UnloadInstruction
  | none => .empty
  | some g =>
    if !g.isActive then .discard .disposition
    else if g.stepsOutstanding then
      (if s.carousel.lapLimit ≤ g.laps then .discard .lapLimit else .recirculate)
    else if s.entryClear g.length then .transfer
    else .wait

/-- The stop after an instruction: EMPTY makes it DONE, WAIT leaves it, the others make it IN_SERVICE (R120). -/
def afterInstruction (stop : Nat) (i : UnloadInstruction) (s : State) : State :=
  match i with
  | .empty => s.setService stop .done
  | .wait => s
  | .discard _ => s.setService stop .inService
  | .recirculate => s.setService stop .inService
  | .transfer => s.setService stop .inService

end State

/-- What an instruction writes into the instruction record: EMPTY writes none (R121). -/
def UnloadInstruction.record : UnloadInstruction → Option UnloadInstruction
  | .empty => none
  | .discard c => some (.discard c)
  | .recirculate => some .recirculate
  | .transfer => some .transfer
  | .wait => some .wait

/-- The reply payload of UNLOAD QUERY: instruction, ticket, discard cause (R120, R182). -/
def queryReply (i : UnloadInstruction) (ticket : Option Nat) : List Byte :=
  i.byte :: (ticketBytes ticket ++ [i.causeByte])

namespace State

/-- A query that chooses afresh, at a NONE or DUE stop (R120, R121). -/
def chooseAfresh (stop : Nat) (s : State) : Served :=
  let g := s.garmentAt stop
  let i := s.chooseInstruction g
  (servedOk ((s.afterInstruction stop i).setUnloadRecord i.record) (queryReply i (g.map (·.seq)))).lateTest

/-- UNLOAD QUERY at a stop (R120): at IN_SERVICE the recorded instruction, at DONE or MISSED nothing. -/
def unloadQuery (stop : Nat) (s : State) : Served :=
  match s.service stop with
  | .none => s.chooseAfresh stop
  | .due => s.chooseAfresh stop
  | .inService =>
    servedOk s (queryReply (s.carousel.unloadRecord.getD .empty) ((s.garmentAt stop).map (·.seq)))
  | .done => unserved s .notDue
  | .missed => unserved s .notDue

/-- FORCED_TRANSFER is added where the recorded instruction is not TRANSFER (R122). -/
def markForced (seq : Nat) (s : State) : State :=
  if s.carousel.unloadRecord = some .transfer then s
  else s.modGarment seq fun g => { g with inspect := { g.inspect with forcedTransfer := true } }

/-- TRANSFERRED (R122): the platen is emptied, the garment is placed on the belt. -/
def transferred (stop : Nat) (g : Garment) (s : State) : State :=
  (((s.setPlatenGarment (s.platenAt stop) none).placeOnBelt false g.seq g.length).markForced g.seq).setService stop .done

/-- The spoil reason of a discard (R37, R122). -/
def discardReason (s : State) : SpoilReason :=
  if s.carousel.unloadRecord = some (.discard .lapLimit) then .missedStep else .unloadDiscard

/-- DISCARDED (R122): an ACTIVE garment is first spoiled; then it is retired and the platen is emptied. -/
def discarded (stop : Nat) (g : Garment) (s : State) : State :=
  s.drainAfter
    ((((s.spoil g.seq s.discardReason).retire g.seq).setPlatenGarment (s.platenAt stop) none).setService stop .done)

/-- LEFT (R122): the garment stays on its platen and its laps rise by 1. -/
def leftOn (stop : Nat) (g : Garment) (s : State) : State := (s.addLap g.seq).setService stop .done

/-- UNLOAD DONE accepted, by its action; an action code that names none is answered RANGE (R122). -/
def unloadDone (stop : Nat) (action : Byte) (g : Garment) (s : State) : Served :=
  match unloadAction? action with
  | none => unserved s .range
  | some .transferred => servedOk (s.transferred stop g) []
  | some .discarded => servedOk (s.discarded stop g) []
  | some .left => servedOk (s.leftOn stop g) []

end State

/-- UNLOAD_QUERY (R120). -/
def execUnloadQuery (link : LinkNo) (payload : List Byte) (s : State) : Out :=
  .next (s.serve link .unloadQuery payload fun s => s.unloadQuery (s.stopOfLink link))

/-- UNLOAD_DONE (R106, R121, R122). -/
def execUnloadDone (link : LinkNo) (payload : List Byte) (s : State) : Out :=
  .next (s.serve link .unloadDone payload fun s =>
    s.report (s.stopOfLink link) true payload fun g =>
      s.unloadDone (s.stopOfLink link) (payloadByte payload 5) g)

end Sys2Proof.Machine
end

