-- ==== Sys2Proof/Machine/Dispatch.lean ====
section
/-! DEFINITION. The dispatch: one arm for each command, one direct call of its meaning. -/

namespace Sys2Proof.Machine

/-- The effect of a command on everything but the queue. -/
def exec (i : Instr) (s : State) : Host.Outcome State Fault Refusal :=
  match i with
  | .powerOn => Sys2Proof.Machine.execPowerOn s
  | .resetPin => Sys2Proof.Machine.execResetPin s
  | .index => Sys2Proof.Machine.execIndex s
  | .beltTick => Sys2Proof.Machine.execBeltTick s
  | .stationLate => Sys2Proof.Machine.execStationLate s
  | .tempStale => Sys2Proof.Machine.execTempStale s
  | .stall => Sys2Proof.Machine.execStall s
  | .linkGapTimeout link ending => Sys2Proof.Machine.execLinkGapTimeout link ending s
  | .badFrame link code => Sys2Proof.Machine.execBadFrame link code s
  | .unknownRequestCode link code payload => Sys2Proof.Machine.execUnknownRequestCode link code payload s
  | .transactionDropped => Sys2Proof.Machine.execTransactionDropped s
  | .unknownCommand command => Sys2Proof.Machine.execUnknownCommand command s
  | .drainEnd => Sys2Proof.Machine.execDrainEnd s
  | .bankApplied bank => Sys2Proof.Machine.execBankApplied bank s
  | .cancellationEnd order => Sys2Proof.Machine.execCancellationEnd order s
  | .start => Sys2Proof.Machine.execStart s
  | .hold => Sys2Proof.Machine.execHold s
  | .resume => Sys2Proof.Machine.execResume s
  | .drain => Sys2Proof.Machine.execDrain s
  | .lineReset => Sys2Proof.Machine.execLineReset s
  | .writeAttentionRequests mode mask => Sys2Proof.Machine.execWriteAttentionRequests mode mask s
  | .writeAttentionEnables mode mask => Sys2Proof.Machine.execWriteAttentionEnables mode mask s
  | .setMasterEnable value => Sys2Proof.Machine.execSetMasterEnable value s
  | .readAttention => Sys2Proof.Machine.execReadAttention s
  | .takeAttention mask => Sys2Proof.Machine.execTakeAttention mask s
  | .addOrder number cls => Sys2Proof.Machine.execAddOrder number cls s
  | .addLine style colour size profile orientation mask choke x y ordered => Sys2Proof.Machine.execAddLine style colour size profile orientation mask choke x y ordered s
  | .deleteLine => Sys2Proof.Machine.execDeleteLine s
  | .commit => Sys2Proof.Machine.execCommit s
  | .editLineQty ordered => Sys2Proof.Machine.execEditLineQty ordered s
  | .editLineArt profile orientation mask choke x y => Sys2Proof.Machine.execEditLineArt profile orientation mask choke x y s
  | .setPriority cls => Sys2Proof.Machine.execSetPriority cls s
  | .holdOrder => Sys2Proof.Machine.execHoldOrder s
  | .releaseOrder => Sys2Proof.Machine.execReleaseOrder s
  | .cancelOrder => Sys2Proof.Machine.execCancelOrder s
  | .retireOrder => Sys2Proof.Machine.execRetireOrder s
  | .setStyle style fabric length => Sys2Proof.Machine.execSetStyle style fabric length s
  | .setColour colour cls => Sys2Proof.Machine.execSetColour colour cls s
  | .setFabric fabric factor baseCure => Sys2Proof.Machine.execSetFabric fabric factor baseCure s
  | .readStyle style => Sys2Proof.Machine.execReadStyle style s
  | .readColour colour => Sys2Proof.Machine.execReadColour colour s
  | .readFabric fabric => Sys2Proof.Machine.execReadFabric fabric s
  | .spoilGarment => Sys2Proof.Machine.execSpoilGarment s
  | .readLastSpoil => Sys2Proof.Machine.execReadLastSpoil s
  | .profileBegin slot width height format startCol startRow cols rows => Sys2Proof.Machine.execProfileBegin slot width height format startCol startRow cols rows s
  | .profileData length data => Sys2Proof.Machine.execProfileData length data s
  | .profileEnd => Sys2Proof.Machine.execProfileEnd s
  | .profileFree slot => Sys2Proof.Machine.execProfileFree slot s
  | .setWindow slot startCol startRow cols rows => Sys2Proof.Machine.execSetWindow slot startCol startRow cols rows s
  | .readProfile slot => Sys2Proof.Machine.execReadProfile slot s
  | .readCells slot index count => Sys2Proof.Machine.execReadCells slot index count s
  | .readStore block => Sys2Proof.Machine.execReadStore block s
  | .writeRecipeFine bank code w u p => Sys2Proof.Machine.execWriteRecipeFine bank code w u p s
  | .writeRecipeCoarse bank code w u p => Sys2Proof.Machine.execWriteRecipeCoarse bank code w u p s
  | .discardPending bank => Sys2Proof.Machine.execDiscardPending bank s
  | .readRecipe bank code => Sys2Proof.Machine.execReadRecipe bank code s
  | .readBank bank => Sys2Proof.Machine.execReadBank bank s
  | .setEconomy value => Sys2Proof.Machine.execSetEconomy value s
  | .setInkCap cap => Sys2Proof.Machine.execSetInkCap cap s
  | .setCureCoefficients kW kU => Sys2Proof.Machine.execSetCureCoefficients kW kU s
  | .readSheetSettings => Sys2Proof.Machine.execReadSheetSettings s
  | .setPlatenCount count => Sys2Proof.Machine.execSetPlatenCount count s
  | .setOrigin origin => Sys2Proof.Machine.execSetOrigin origin s
  | .assignStation link kind stop => Sys2Proof.Machine.execAssignStation link kind stop s
  | .blockPlaten platen => Sys2Proof.Machine.execBlockPlaten platen s
  | .unblockPlaten platen => Sys2Proof.Machine.execUnblockPlaten platen s
  | .setStationMode link mode => Sys2Proof.Machine.execSetStationMode link mode s
  | .setGateExempt link value => Sys2Proof.Machine.execSetGateExempt link value s
  | .setDwellLimit seconds => Sys2Proof.Machine.execSetDwellLimit seconds s
  | .setLapLimit limit => Sys2Proof.Machine.execSetLapLimit limit s
  | .readCarousel => Sys2Proof.Machine.execReadCarousel s
  | .readStations => Sys2Proof.Machine.execReadStations s
  | .setInkTolerance tolerance => Sys2Proof.Machine.execSetInkTolerance tolerance s
  | .readInkTolerance => Sys2Proof.Machine.execReadInkTolerance s
  | .readLink link => Sys2Proof.Machine.execReadLink link s
  | .setBeltGeometry belt entry heat exit segments seg0 seg1 seg2 seg3 gap => Sys2Proof.Machine.execSetBeltGeometry belt entry heat exit segments seg0 seg1 seg2 seg3 gap s
  | .setCureCurve length data => Sys2Proof.Machine.execSetCureCurve length data s
  | .setOvertempLimit limit => Sys2Proof.Machine.execSetOvertempLimit limit s
  | .setStaleLimit seconds => Sys2Proof.Machine.execSetStaleLimit seconds s
  | .setStallLimit seconds => Sys2Proof.Machine.execSetStallLimit seconds s
  | .readTunnel => Sys2Proof.Machine.execReadTunnel s
  | .readConflicts => Sys2Proof.Machine.execReadConflicts s
  | .readBins => Sys2Proof.Machine.execReadBins s
  | .seekOrder number => Sys2Proof.Machine.execSeekOrder number s
  | .seekNextOrder filter => Sys2Proof.Machine.execSeekNextOrder filter s
  | .seekLine index => Sys2Proof.Machine.execSeekLine index s
  | .seekGarment ticket => Sys2Proof.Machine.execSeekGarment ticket s
  | .seekGarmentAtPlaten platen => Sys2Proof.Machine.execSeekGarmentAtPlaten platen s
  | .seekOrderOfGarment => Sys2Proof.Machine.execSeekOrderOfGarment s
  | .readOrder => Sys2Proof.Machine.execReadOrder s
  | .readLine => Sys2Proof.Machine.execReadLine s
  | .readGarment => Sys2Proof.Machine.execReadGarment s
  | .readState => Sys2Proof.Machine.execReadState s
  | .readBeltList position => Sys2Proof.Machine.execReadBeltList position s
  | .readExitList position => Sys2Proof.Machine.execReadExitList position s
  | .readReturnList position => Sys2Proof.Machine.execReadReturnList position s
  | .readIdent => Sys2Proof.Machine.execReadIdent s
  | .blankScan link payload => Sys2Proof.Machine.execBlankScan link payload s
  | .loadDone link payload => Sys2Proof.Machine.execLoadDone link payload s
  | .loadSkip link payload => Sys2Proof.Machine.execLoadSkip link payload s
  | .sheet link payload => Sys2Proof.Machine.execSheet link payload s
  | .doseRow link payload => Sys2Proof.Machine.execDoseRow link payload s
  | .doseDone link payload => Sys2Proof.Machine.execDoseDone link payload s
  | .pressStart link payload => Sys2Proof.Machine.execPressStart link payload s
  | .pressDone link payload => Sys2Proof.Machine.execPressDone link payload s
  | .jobFetch link payload => Sys2Proof.Machine.execJobFetch link payload s
  | .printDone link payload => Sys2Proof.Machine.execPrintDone link payload s
  | .printFault link payload => Sys2Proof.Machine.execPrintFault link payload s
  | .unloadQuery link payload => Sys2Proof.Machine.execUnloadQuery link payload s
  | .unloadDone link payload => Sys2Proof.Machine.execUnloadDone link payload s
  | .tempReport link payload => Sys2Proof.Machine.execTempReport link payload s
  | .packScan link payload => Sys2Proof.Machine.execPackScan link payload s
  | .packConfirm link payload => Sys2Proof.Machine.execPackConfirm link payload s
  | .returnPlaced link payload => Sys2Proof.Machine.execReturnPlaced link payload s
  | .replySent link => Sys2Proof.Machine.execReplySent link s

end Sys2Proof.Machine
end

