-- ==== Sys2Proof/WellFormed.lean ====
section
/-! DEFINITION. Which terms of `Instr` stand for something the wire or the device can produce. -/

namespace Sys2Proof

/-- The data bytes of a data-carrying command go with its length byte: as many as it says where it is in range, none where
the command is answered LENGTH at once (R168). -/
def dataMatches (lengthOk : Byte → Bool) (length : Byte) (data : List Byte) : Bool :=
  if lengthOk length then data.length == length.toNat else data.isEmpty

/-- The link and payload of a station request, if the row is one (R182). -/
def requestPayload : Instr → Option (List Byte)
  | .blankScan _ payload => some payload
  | .loadDone _ payload => some payload
  | .loadSkip _ payload => some payload
  | .sheet _ payload => some payload
  | .doseRow _ payload => some payload
  | .doseDone _ payload => some payload
  | .pressStart _ payload => some payload
  | .pressDone _ payload => some payload
  | .jobFetch _ payload => some payload
  | .printDone _ payload => some payload
  | .printFault _ payload => some payload
  | .unloadQuery _ payload => some payload
  | .unloadDone _ payload => some payload
  | .tempReport _ payload => some payload
  | .packScan _ payload => some payload
  | .packConfirm _ payload => some payload
  | .returnPlaced _ payload => some payload
  | .unknownRequestCode _ _ payload => some payload
  | _ => none

/-- Well-formedness. Every other row is well formed with every value of its operands, since the operands are as wide as
the wire. -/
def WellFormed (i : Instr) : Bool :=
  (match i with
    | .profileData length data => dataMatches profileDataLengthOk length data
    | .setCureCurve length data => dataMatches cureCurveLengthOk length data
    | .unknownCommand command => !namesHostCommand command
    | .unknownRequestCode _ code _ => (Request.ofCode code).isNone
    | .cancellationEnd order => 1 ≤ order && order < 10 ^ 10
    | _ => true)
  && (match requestPayload i with
    | some payload => payload.length ≤ maxPayload
    | none => true)

end Sys2Proof
end

