-- ==== Sys2Proof/Safety.lean ====
section
/-! DEFINITION. What holds of the machine at reset and after every step: the ranges of its settings and timers, the form of
its pools, its order book, its lists, its bins and its artwork store, its use counts, its carousel, its counters and its
frozen sheets; and the conditions under which a command does its own work. -/

namespace Sys2Proof.Machine.State

/-- A request frame on the link reaches its owning block: the link is not sending a reply, and no check of R103 fails. -/
def Accepts (s : State) (l : LinkNo) (rq : Request) (payload : List Byte) : Prop :=
  s.answering l = false ∧ s.frameCheck l rq payload = none

/-- The report passes the tests of R106 for the garment at the stop. -/
def ReportOn (s : State) (stop : Nat) (payload : List Byte) (g : Garment) : Prop :=
  ∃ seq, payloadTicket payload = some seq ∧ s.reportTest stop seq false = .ok g

/-- The link answers a request: it sends the reply frame, its record takes the request and the reply code, and nothing else
of the station links changes (R102, R104). -/
def Answered (s t : State) (l : LinkNo) (rq : Request) (code : ReplyCode) (payload : List Byte) : Prop :=
  t.link l =
      { (s.link l) with
        receiver := .answering (replyFrame rq.code code payload), lastRequest := some rq.code, lastReply := some code }
    ∧ (∀ l', l' ≠ l → t.link l' = s.link l') ∧ t.station.inkTolerance = s.station.inkTolerance

/-- The drain ends with the retirement of the garment: the mode is DRAIN and no other garment is live (R160). -/
def DrainEndsWith (s : State) (seq : Nat) : Prop := s.mode = .drain ∧ ∀ k ∈ s.garments, k.seq = seq

/-- The seven conditions of START (R159). -/
def StartCondition (s : State) : Nat → Prop
  | 1 => ∀ k ∈ [StationKind.load, .unload, .tunnel, .pack], ∃ l, (s.link l).kind = k ∧ ∀ l', (s.link l').kind = k → l' = l
  | 2 => ∀ k ∈ [StationKind.pretreat, .press, .printW, .printC],
      ∀ l l', (s.link l).kind = k → (s.link l').kind = k → l' = l
  | 3 => ∀ l, (s.link l).kind = .load → (s.link l).stop = 0
  | 4 => ∀ l, (s.link l).kind.isCarousel = true → (s.link l).stop < s.carousel.platenCount
  | 5 => ∀ l l', (s.link l).kind.isCarousel = true → (s.link l').kind.isCarousel = true →
      (s.link l).kind.byte.toNat < (s.link l').kind.byte.toNat → (s.link l).stop < (s.link l').stop
  | 6 => s.tunnel.geometry.isSet = true
  | 7 => 2 ≤ s.tunnel.curve.length
  | _ => True

/-- Settings, timers and tables lie in the ranges the reference gives them (R23, R25, R66, R78, R79, R82, R84, R93, R95,
R118, R123, R125, R127, R128, R129, R136, R162). -/
structure SettingsInRange (s : State) : Prop where
  platenCount : 4 ≤ s.carousel.platenCount ∧ s.carousel.platenCount ≤ 16
  origin : s.carousel.origin < s.carousel.platenCount
  dwell : s.carousel.dwell ≤ dwellCap
  dwellLimit : 1 ≤ s.carousel.dwellLimit ∧ s.carousel.dwellLimit ≤ 600
  lapLimit : s.carousel.lapLimit ≤ lapsCap
  stops : ∀ l : LinkNo, (s.link l).stop ≤ 15
  noStop : ∀ l : LinkNo, (s.link l).kind.isCarousel = false → (s.link l).stop = 0 ∧ (s.link l).exempt = false
  inkTolerance : s.station.inkTolerance ≤ 100
  inkCap : s.sheet.inkCap ≤ maxInkCap
  cureCoefficients : s.sheet.kW ≤ 255 ∧ s.sheet.kU ≤ 255
  geometry : s.tunnel.geometry = {} ∨ (s.tunnel.geometry.isSet = true ∧ s.tunnel.geometry.ok = true)
  curve : s.tunnel.curve = [] ∨ curveOk s.tunnel.curve = true
  curveRates : ∀ p ∈ s.tunnel.curve, p.rate ≤ 255
  temps : ∀ n ∈ s.tunnel.temps.toList, n ≤ maxTemp
  rates : ∀ n ∈ s.tunnel.rates.toList, n ≤ 255
  overtempLimit : s.tunnel.overtempLimit ≤ maxTemp
  staleLimit : 1 ≤ s.tunnel.staleLimit ∧ s.tunnel.staleLimit ≤ 30
  stallLimit : 1 ≤ s.tunnel.stallLimit ∧ s.tunnel.stallLimit ≤ 120
  stale : ∀ n, s.tunnel.stale = some n → n ≤ staleCap
  stall : ∀ n, s.tunnel.stall = some n → n ≤ stallCap
  timebase : s.timebase < 2 ^ 32
  styles : ∀ n, (s.style n).fabric ≤ 7 ∧ 1 ≤ (s.style n).length ∧ (s.style n).length ≤ 15
  fabrics : ∀ n, (s.fabric n).factor ≤ 255 ∧ (s.fabric n).baseCure ≤ 65535

/-- The garment pool: at most 64 live garments, each ticket held once, every sequence and the generator in 1 to 99999999,
and no garment live in SETUP (R27, R28, R157). -/
structure PoolForm (s : State) : Prop where
  size : s.garments.length ≤ garmentPoolSize
  tickets : (s.garments.map (·.seq)).Nodup
  range : ∀ g ∈ s.garments, 1 ≤ g.seq ∧ g.seq ≤ 99999999
  generator : 1 ≤ s.garmentTable.generator ∧ s.garmentTable.generator ≤ 99999999
  setup : s.mode = .setup → s.garments = []

/-- The order book: order numbers unique, both pools within their sizes, the limits of an order and a line, and the
admission list holding every order past DRAFT, each once (R1, R2, R4, R5). -/
structure BookForm (s : State) : Prop where
  numbers : (s.book.orders.map (·.number)).Nodup
  numberRange : ∀ o ∈ s.book.orders, 1 ≤ o.number ∧ o.number < 10 ^ 10
  orders : s.book.orders.length ≤ orderPoolSize
  lines : s.linesInUse ≤ linePoolSize
  linesPerOrder : ∀ o ∈ s.book.orders, o.lines.length ≤ maxLines
  classes : ∀ o ∈ s.book.orders, o.cls ≤ 3
  totals : ∀ o ∈ s.book.orders, o.total ≤ maxTotal
  ordered : ∀ o ∈ s.book.orders, ∀ l ∈ o.lines, 1 ≤ l.ordered
  ranges : ∀ o ∈ s.book.orders, ∀ l ∈ o.lines, l.art.profile ≤ maxProfile ∧ l.key.size ≤ 15 ∧ l.spoiled ≤ spoiledCap
  lined : ∀ o ∈ s.book.orders, o.state ≠ .draft → o.lines ≠ []
  admitted : s.book.admission.Nodup
  admission : ∀ n, n ∈ s.book.admission ↔ ∃ o ∈ s.book.orders, o.number = n ∧ o.state ≠ .draft

/-- The garments whose unreleased sheet names a slot (R61). -/
def claimsOnSlot (s : State) (n : Nat) : Nat := s.garments.countP fun g => g.claim.any (·.slot == n)

/-- The garments whose unreleased sheet names a bank (R61). -/
def claimsOnBank (s : State) (b : Fin 4) : Nat := s.garments.countP fun g => g.claim.any (·.bank == b)

/-- The use count of a slot or a bank is the number of live garments holding an unreleased sheet that names it, and a bank
with use count 0 has no pending mark (R58, R61). -/
structure UseCountsRight (s : State) : Prop where
  slots : ∀ n, n < slotCount → (s.slot n).useCount = s.claimsOnSlot n
  banks : ∀ b, (s.bank b).useCount = s.claimsOnBank b
  marks : ∀ b, (s.bank b).useCount = 0 → markedCount (s.bank b) = 0

/-- Outside SETUP the configuration is the one START tested; platens and garments name each other; a MATCHED garment stands
at stop 0 with stop 0 IN_SERVICE; the presented garment is live, on the belt or in the exit list (R80, R110, R142, R159). -/
structure CarouselForm (s : State) : Prop where
  valid : s.mode ≠ .setup → s.configFailure = none
  platens : ∀ p seq, (s.platen p).garment = some seq → ∃ g, s.garment? seq = some g ∧ g.place.platen? = some p
  places : ∀ g ∈ s.garments, ∀ p, g.place.platen? = some p →
    p < s.carousel.platenCount ∧ (s.platen p).garment = some g.seq
  matched : ∀ g ∈ s.garments, ∀ p, g.place = .matched p → p = s.platenAt 0 ∧ s.service 0 = .inService
  presented : ∀ r, s.pack.presented = some r →
    ∃ g, s.garment? r.seq = some g ∧ g.place.platen? = none ∧ g.place ≠ .returning

/-- The live ACTIVE garments bound to a line (R3). -/
def activeOn (s : State) (bound : Nat × Nat) : Nat := s.garments.countP fun g => g.isActive && g.bound == some bound

/-- The counters of every line: allocated is the number of live ACTIVE garments bound to it, and allocated + finished is at
most ordered (R3); with what that rests on: an ACTIVE garment is bound to a line of an order past DRAFT, a MATCHED garment
is ACTIVE, a COMPLETE order is satisfied, a CANCELLED order has nothing allocated, and a REJECT verdict without a counter
change was given to a garment that is not ACTIVE (R17, R20, R44, R150). -/
structure Accounts (s : State) : Prop where
  allocated : ∀ o ∈ s.book.orders, ∀ i l, o.lines[i]? = some l →
    l.allocated = s.activeOn (o.number, i) ∧ l.allocated + l.finished ≤ l.ordered
  bound : ∀ g ∈ s.garments, g.isActive = true →
    ∃ b o, g.bound = some b ∧ s.order? b.1 = some o ∧ b.2 < o.lines.length ∧ o.state ≠ .draft
  matchedActive : ∀ g ∈ s.garments, g.isMatched = true → g.isActive = true
  complete : ∀ o ∈ s.book.orders, o.state = .complete → o.satisfied = true
  cancelled : ∀ o ∈ s.book.orders, o.state = .cancelled → o.allocatedSum = 0
  rejected : ∀ r g, s.pack.presented = some r → s.garment? r.seq = some g → r.verdict = .reject →
    r.cause = some .cancelled ∨ r.cause = some .undercureLimit ∨ g.isActive = false

/-- A list of the garments in one place: it holds the live garments whose place it is, each once. -/
def ListsPlace (s : State) (list : List Nat) (stands : Place → Prop) : Prop :=
  list.Nodup ∧ ∀ seq, seq ∈ list ↔ ∃ g, s.garment? seq = some g ∧ stands g.place

/-- The belt list, the exit list and the return list hold the live garments that are ON_BELT, AT_EXIT and RETURNING, each
once; tails do not increase from the front of the belt list to its back, and every tail is below B (R130, R140, R141). -/
structure ListForm (s : State) : Prop where
  belt : s.ListsPlace s.tunnel.belt fun p => ∃ tail, p = .onBelt tail
  exitList : s.ListsPlace s.pack.exitList (· = .atExit)
  returnList : s.ListsPlace s.pack.returnList (· = .returning)
  tails : s.tunnel.belt.Pairwise fun q k => ∀ g h t u, s.garment? q = some g → s.garment? k = some h →
    g.place = .onBelt t → h.place = .onBelt u → u ≤ t
  onBelt : ∀ g ∈ s.garments, ∀ tail, g.place = .onBelt tail → tail < s.tunnel.geometry.belt

/-- Bins and orders name each other: a held bin entry names an order of the book that names the bin, and an order's bin
entry names the order, so that a bin is held by at most one order and an order holds at most one bin; counts are 0 to 99;
and a CANCELLED order holds no bin (R17, R143, R153). -/
structure BinForm (s : State) : Prop where
  held : ∀ b h, s.bin b = some h → h.count ≤ binCountCap ∧ ∃ o, s.order? h.order = some o ∧ o.bin = some b
  named : ∀ o ∈ s.book.orders, ∀ b, o.bin = some b → ∃ h, s.bin b = some h ∧ h.order = o.number
  cancelled : ∀ o ∈ s.book.orders, o.state = .cancelled → o.bin = none

/-- The artwork store: a slot's chain lists exactly the blocks whose map entries name it, each once, and no entry names
another slot; at most one slot is LOADING; the geometry of a slot that is not EMPTY is one that PROFILE BEGIN takes, its
chain as long as the canvas needs, its fill within the canvas and at its end when READY, its window inside the canvas; an
EMPTY slot reads 0; and a slot with a use count above 0 is READY (R47, R48, R50, R53, R54, R61). -/
structure StoreForm (s : State) : Prop where
  chains : ∀ n, n < slotCount → (s.slot n).chain.Nodup ∧ ∀ b, b ∈ (s.slot n).chain ↔ s.art.owner b = some n
  owners : ∀ b n, s.art.owner b = some n → n < slotCount
  loading : ∀ n m, (s.slot n).state = .loading → (s.slot m).state = .loading → n = m
  canvas : ∀ n, (s.slot n).state ≠ .empty →
    1 ≤ (s.slot n).width ∧ (s.slot n).width ≤ 64 ∧ 1 ≤ (s.slot n).height ∧ (s.slot n).height ≤ 64
    ∧ (s.slot n).chain.length = blocksNeeded (s.slot n).width (s.slot n).height
    ∧ (s.slot n).fill ≤ (s.slot n).canvasCells
  window : ∀ n, (s.slot n).state ≠ .empty →
    1 ≤ (s.slot n).cols ∧ (s.slot n).cols ≤ 32 ∧ 1 ≤ (s.slot n).rows ∧ (s.slot n).rows ≤ 40
    ∧ (s.slot n).startCol + (s.slot n).cols ≤ (s.slot n).width
    ∧ (s.slot n).startRow + (s.slot n).rows ≤ (s.slot n).height
  ready : ∀ n, (s.slot n).state = .ready → (s.slot n).fill = (s.slot n).canvasCells
  empty : ∀ n, (s.slot n).state = .empty → s.slot n = {}
  inUse : ∀ n, 0 < (s.slot n).useCount → (s.slot n).state = .ready

/-- The sheets of the live garments are frozen: as long as a garment holds its claim, the dose rows computed from the store
and the recipes as they stand sum to the Dsum of its figures (R61, R71, R77). -/
structure SheetsFrozen (s : State) : Prop where
  slots : ∀ g ∈ s.garments, ∀ c, g.claim = some c → c.slot < slotCount
  doses : ∀ g ∈ s.garments, ∀ c, g.claim = some c →
    ((List.range g.figures.rows).map fun i => (s.doseRow c g.figures i).sum).sum = g.figures.dsum

end Sys2Proof.Machine.State
end

