-- ==== Sys2Proof/Certificates/Slice0/Obligations.lean ====
section
/-! DEFINITION. The statements for the provers. Each says what a command or the machine does; the numbered rules it follows
stand in its docstring and in OBLIGATIONS.json. -/

open Sys2Proof Sys2Proof.Machine

/-! ## The machine as a whole -/

/-- A step with a command at the front of the queue is `exec` of it on the state with the queue's rest; every command
completes, with a next state, and leaves the queue to the step (log entry 1). -/
def Obligations.StepRunsFrontCommand : Prop :=
  (∀ (c : Instr) (s : State), step { s with pending := c :: s.pending } = exec c s)
  ∧ ∀ (c : Instr) (s : State), ∃ t, exec c s = .next t ∧ t.pending = s.pending

/-- POWER_ON and RESET_PIN bring every block to the same values (R21, R45, R63, R66, R97, R118, R138,
R157, R163 to R165). -/
def Obligations.ResetsGiveTheValuesOfTheSpec : Prop :=
  ∀ s : State, ∃ t, exec .powerOn s = .next t ∧ exec .resetPin s = .next t ∧ t.pending = s.pending
    ∧ t.mode = .setup ∧ t.timebase = 0
    -- R21
    ∧ t.book.orders = [] ∧ t.book.admission = [] ∧ t.linesInUse = 0 ∧ (∀ b, t.bin b = none)
    -- R45
    ∧ t.garments = [] ∧ t.freeGarments = 64 ∧ t.garmentTable.generator = 1
    ∧ (∀ n, t.style n = { fabric := 0, length := 8 }) ∧ (∀ n, t.colourClass n = .light)
    ∧ (∀ n, t.fabric n = { factor := 128, baseCure := 1000 })
    ∧ t.garmentTable.lastSpoil = { ticket := none, order := none, line := none, reason := none, count := 0 }
    ∧ t.pack.exitList = [] ∧ t.pack.returnList = [] ∧ t.pack.presented = none
    ∧ t.host.orderCursor = none ∧ t.host.lineCursor = none ∧ t.host.garmentCursor = none
    -- R63
    ∧ (∀ n, t.slot n =
        { state := .empty, width := 0, height := 0, format := .fourBit, startCol := 0, startRow := 0, cols := 0, rows := 0
          chain := [], fill := 0, useCount := 0 })
    ∧ (∀ b : Nat, b < 384 → t.art.owner b = none)
    ∧ (∀ b c, (t.bank b).entry c = { live := { w := 0, u := 0, p := 0 }, pending := none })
    ∧ (∀ b, (t.bank b).useCount = 0)
    -- R97
    ∧ t.carousel.platenCount = 12 ∧ t.carousel.origin = 0
    ∧ (∀ p, t.platen p = { garment := none, blocked := false })
    ∧ (∀ n, t.stop n = { service := .none, void := none }) ∧ t.carousel.unloadRecord = none
    ∧ (∀ l, (t.link l).kind = .unassigned ∧ (t.link l).stop = 0 ∧ (t.link l).bypassed = false
        ∧ (t.link l).exempt = false ∧ (t.link l).receiver = .hunting ∧ (t.link l).lastRequest = none
        ∧ (t.link l).lastReply = none ∧ (t.link l).lastFault = none)
    ∧ t.carousel.dwell = 0 ∧ t.carousel.dwellLimit = 60 ∧ t.carousel.late = false ∧ t.carousel.lapLimit = 1
    ∧ t.indexPermit = false
    -- R138
    ∧ t.tunnel.geometry =
        { isSet := false, belt := 0, entry := 0, heat := 0, exit := 0, segments := 0, lengths := #v[0, 0, 0, 0], gap := 0 }
    ∧ t.tunnel.curve = [] ∧ t.tunnel.temps = #v[0, 0, 0, 0] ∧ t.tunnel.rates = #v[0, 0, 0, 0]
    ∧ t.tunnel.overtempLimit = 220 ∧ t.tunnel.stale = none ∧ t.tunnel.stall = none ∧ t.tunnel.staleMarker = false
    ∧ t.tunnel.stallMarker = false ∧ t.tunnel.staleLimit = 5 ∧ t.tunnel.stallLimit = 20 ∧ t.tunnel.belt = []
    ∧ t.tunnel.conflicts = { entryOverlap := false, returnOverlap := false }
    -- R66, R118, R163, R164, R165
    ∧ t.sheet.economy = false ∧ t.sheet.inkCap = 510 ∧ t.sheet.kW = 64 ∧ t.sheet.kU = 32
    ∧ t.station.inkTolerance = 15 ∧ t.attention = { requests := 0, enables := 0, master := false } ∧ t.attn = false

/-- A host command that is not answered OK changes nothing but what the port drives (R167, R169). -/
def Obligations.RefusedHostCommandChangesNothing : Prop :=
  ∀ (c : Instr) (bytes : List Byte) (s t : State) (a : HostAnswer), hostBytes c = some bytes → exec c s = .next t →
    t.host.answer = some a → a.status ≠ .ok → t = { s with host := { s.host with answer := some a } }

/-! ## The wire -/

/-- Decoding the transaction of a well-formed host command gives the command, whatever bytes follow it (R167, R177, R181);
a transaction cut short is dropped, without effect, and a byte that names no command is answered UNKNOWN (R168). -/
def Obligations.HostTransactionsDecode : Prop :=
  (∀ (c : Instr) (bytes extra : List Byte), WellFormed c = true → hostBytes c = some bytes →
     decodeTransaction (bytes ++ extra) = c)
  ∧ ((∀ (c : Instr) (bytes : List Byte) (k : Nat), WellFormed c = true → hostBytes c = some bytes → k < bytes.length →
     decodeTransaction (bytes.take k) = .transactionDropped)
   ∧ (∀ s : State, exec .transactionDropped s = .next s)
   ∧ ∀ (b : Byte) (s : State), exec (.unknownCommand b) s = .next (s.answer 1 .unknown []))

/-- A link that hunts finds the frame of a well-formed request behind any bytes that are no start byte, and reads exactly
that request, whatever follows (R99, R101, R182). -/
def Obligations.StationFrameRoundTrip : Prop :=
  ∀ (c : Instr) (link : LinkNo) (frame noise extra : List Byte), WellFormed c = true →
    frameBytes c = some (link, frame) → startByte ∉ noise → decodeFrame link (noise ++ frame ++ extra) = some c

/-- The checks of a frame in their order; the first that fails gives the reply, and nothing but the link is written (R102,
R103, R104). -/
def Obligations.FrameChecksInOrder : Prop :=
  ∀ (rq : Request) (link : LinkNo) (payload : List Byte) (s : State), s.answering link = false →
    let k := (s.link link).kind
    let refused (code : ReplyCode) := exec (rq.command link payload) s = .next (s.reply link rq.code code [])
    (s.mode = .setup → refused .offline)
    ∧ (s.mode ≠ .setup → k = .unassigned → refused .unassigned)
    ∧ (s.mode ≠ .setup → k ≠ .unassigned → (s.link link).bypassed = true → refused .bypassed)
    ∧ (s.mode ≠ .setup → k ≠ .unassigned → (s.link link).bypassed = false →
        (servedBy rq k = false → refused .wrongStation)
        ∧ (servedBy rq k = true → payload.length ∉ payloadLengths rq → refused .length)
        ∧ (servedBy rq k = true → payload.length ∈ payloadLengths rq →
            (rq = .blankScan → s.mode = .hold → refused .held)
            ∧ (rq = .blankScan → s.mode = .drain → refused .draining)
            ∧ (bearsTicket rq = true → payloadTicket payload = none → refused .badTicket)))
    ∧ ∀ code : Byte, Request.ofCode code = none →
        exec (.unknownRequestCode link code payload) s = .next (s.reply link code
          (if s.mode = .setup then .offline else if k = .unassigned then .unassigned
            else if (s.link link).bypassed = true then .bypassed else .wrongStation) [])

/-- The receiver of a link: a frame whose bytes do not sum to 0, or whose length byte is above 40, is answered BAD FRAME with
its request code as received (R101); a link sending its reply discards what arrives, and hunts again once the reply is sent;
a gap of more than 10 ms discards the frame in collection, without a reply, and the byte that ends it is taken as in HUNTING
(R99, R100, R102; log entry 8 for the count at which the gap is over). -/
def Obligations.ReceiverFollowsItsStates : Prop :=
  ((∀ (link : LinkNo) (code len : Byte) (rest : List Byte), 40 < len.toNat →
     decodeFrame link (startByte :: code :: len :: rest) = some (.badFrame link code))
   ∧ (∀ (link : LinkNo) (code len check : Byte) (payload extra : List Byte), len.toNat ≤ 40 →
       payload.length = len.toNat →
       decodeFrame link (startByte :: code :: len :: (payload ++ check :: extra)) =
         some (if (code.toNat + len.toNat + (payload.map (·.toNat)).sum + check.toNat) % 256 = 0 then
           checkedFrame link code payload else .badFrame link code))
   ∧ ∀ (link : LinkNo) (code : Byte) (s : State), s.answering link = false →
       ∃ t, exec (.badFrame link code) s = .next t ∧ t = { s with station := t.station }
         ∧ (t.link link).receiver = .answering [0x7E, code, 0x01, 0x00, checkByte [code, 0x01, 0x00]]
         ∧ (t.link link).lastRequest = some code ∧ (t.link link).lastReply = some .badFrame
         ∧ (t.link link).lastFault = (s.link link).lastFault ∧ ∀ l, l ≠ link → t.link l = s.link l)
  ∧ ((∀ (rq : Request) (link : LinkNo) (payload : List Byte) (s : State), s.answering link = true →
     exec (rq.command link payload) s = .next s
     ∧ (∀ code, exec (.badFrame link code) s = .next s)
     ∧ (∀ code, exec (.unknownRequestCode link code payload) s = .next s)
     ∧ (∀ b, exec (.linkGapTimeout link b) s = .next s)
     ∧ exec (.replySent link) s = .next (s.modLink link fun k => { k with receiver := .hunting }))
   ∧ (∀ (link : LinkNo) (b : Byte) (s : State), (s.link link).receiver = .hunting →
       exec (.replySent link) s = .next s
       ∧ exec (.linkGapTimeout link b) s = .next (s.modLink link fun k =>
           { k with receiver := if b = 0x7E then .collecting 0 else .hunting }))
   ∧ ∀ (link : LinkNo) (b : Byte) (gap : Nat) (s : State), (s.link link).receiver = .collecting gap → gap ≤ 10 →
       ∃ t, exec (.linkGapTimeout link b) s = .next t
         ∧ t.timebase = (s.timebase + (11 - gap)) % 2 ^ 32
         ∧ t.link link = { (s.link link) with receiver := if b = 0x7E then .collecting 0 else .hunting }
         ∧ t.garments.length = s.garments.length ∧ t.book = s.book ∧ t.mode = s.mode ∧ t.host = s.host)

/-! ## What every step keeps -/

/-- The invariants hold at reset. -/
def Obligations.InvariantsHoldAtReset : Prop :=
  State.reset.SettingsInRange ∧ State.reset.PoolForm ∧ State.reset.BookForm ∧ State.reset.UseCountsRight
    ∧ State.reset.CarouselForm ∧ State.reset.Accounts ∧ State.reset.ListForm ∧ State.reset.BinForm
    ∧ State.reset.StoreForm ∧ State.reset.SheetsFrozen

/-- Every step keeps the settings, timers and tables in their ranges. -/
def Obligations.StepKeepsSettingsInRange : Prop :=
  ∀ s t : State, s.SettingsInRange → step s = .next t → t.SettingsInRange

/-- Every step keeps the form of the garment pool: at most 64 garments, every ticket held once, no garment live in SETUP. -/
def Obligations.StepKeepsPoolForm : Prop :=
  ∀ s t : State, s.PoolForm → step s = .next t → t.PoolForm

/-- Every step keeps the form of the order book, the admission list with it. -/
def Obligations.StepKeepsBookForm : Prop :=
  ∀ s t : State, s.BookForm → step s = .next t → t.BookForm

/-- Every step keeps each use count equal to the number of live garments whose unreleased sheet names the slot or bank. -/
def Obligations.StepKeepsUseCounts : Prop :=
  ∀ s t : State, s.PoolForm → s.UseCountsRight → step s = .next t → t.UseCountsRight

/-- Every step keeps the configuration START tested, the agreement of platens and garments, and the place of the MATCHED
and the presented garment. -/
def Obligations.StepKeepsCarouselForm : Prop :=
  ∀ s t : State, s.SettingsInRange → s.PoolForm → s.CarouselForm → step s = .next t → t.CarouselForm

/-- Every step keeps the counters of every line: allocated is the number of live ACTIVE garments bound to it, and allocated
+ finished is at most ordered (R3). -/
def Obligations.StepKeepsAccounts : Prop :=
  ∀ s t : State, s.SettingsInRange → s.PoolForm → s.BookForm → s.CarouselForm → s.Accounts → step s = .next t →
    t.Accounts

/-- Every step keeps the belt list, the exit list and the return list in agreement with the places of the garments, and the
tails of the belt list in their order and below B (R130, R140, R141). -/
def Obligations.StepKeepsListForm : Prop :=
  ∀ s t : State, s.SettingsInRange → s.PoolForm → s.CarouselForm → s.ListForm → step s = .next t → t.ListForm

/-- Every step keeps bins and orders naming each other, the bin counts at most 99, and CANCELLED orders without a bin (R17,
R143, R153). -/
def Obligations.StepKeepsBinForm : Prop :=
  ∀ s t : State, s.PoolForm → s.BookForm → s.Accounts → s.BinForm → step s = .next t → t.BinForm

/-- Every step keeps the form of the artwork store: the block map against the chains, one LOADING slot at most, and each
slot's geometry, fill and window (R47, R48, R50, R53, R54, R61). -/
def Obligations.StepKeepsStoreForm : Prop :=
  ∀ s t : State, s.StoreForm → step s = .next t → t.StoreForm

/-- Every step keeps the sheets of the live garments frozen: for every live garment with a claim, the dose rows computed from
the store and the recipes as they stand after the step sum to the Dsum of its figures (R61, R71, R77). -/
def Obligations.StepKeepsSheetsFrozen : Prop :=
  ∀ s t : State, s.PoolForm → s.UseCountsRight → s.StoreForm → s.SheetsFrozen → step s = .next t → t.SheetsFrozen

/-! ## Line modes, time and attention -/

/-- START in SETUP tests its seven conditions in order, and the first that fails is answered, nothing else changing (R159);
with a valid configuration the line enters RUN, the LOAD stop is recomputed, and the dwell timer and the tunnel timers are
started (R87, R93, R94, R129, R136, R158). -/
def Obligations.StartTestsThenEntersRun : Prop :=
  (∀ s : State, s.mode = .setup →
     (∀ n, 1 ≤ n → n ≤ 7 → (∀ m, 1 ≤ m → m < n → s.StartCondition m) → ¬ s.StartCondition n →
       exec .start s = .next (s.answer 1 .config [BitVec.ofNat 8 n]))
     ∧ ((∀ m, 1 ≤ m → m ≤ 7 → s.StartCondition m) → ∃ t, exec .start s = .next t ∧ t.mode = .run))
  ∧ (∀ s : State, s.mode = .setup → s.configFailure = none → ∃ t, exec .start s = .next t
     ∧ t = { s with mode := .run, carousel := t.carousel, tunnel := t.tunnel, host := t.host }
     ∧ t.host = { s.host with answer := some { bytesIn := 1, status := .ok, reply := [] } }
     ∧ t.tunnel = { s.tunnel with stale := some 0, stall := some 0, staleMarker := false, stallMarker := false }
     ∧ t.carousel.dwell = 0 ∧ t.carousel.late = false
     ∧ (∀ n, n ≠ 0 → t.stop n = s.stop n)
     ∧ ((s.service 0 = .none ∨ s.service 0 = .due) → ∀ l, s.stationAt 0 = some l → l.kind = .load →
         t.service 0 = if l.bypassed = false ∧ (s.platen (s.platenAt 0)).garment = none
           ∧ (s.platen (s.platenAt 0)).blocked = false then .due else .none)
     ∧ (s.service 0 = .inService ∨ s.service 0 = .done → t.service 0 = s.service 0)
     ∧ t.carousel.platenCount = s.carousel.platenCount ∧ t.carousel.origin = s.carousel.origin
     ∧ t.carousel.platens = s.carousel.platens)

/-- HOLD, RESUME and DRAIN from the modes they are taken from, and each mode command in every other mode (R87, R92, R158);
the drain ends when no garment is live, at the DRAIN command and at the drain test (R160; log entry 4 for the row). -/
def Obligations.ModeCommandsAndTheEndOfDrain : Prop :=
  (∀ s : State,
     (s.mode = .run → ∃ t, exec .hold s = .next t ∧ t.mode = .hold ∧ t.indexPermit = false
       ∧ (∀ l, s.stationAt 0 = some l → l.kind = .load → s.service 0 = .due → t.service 0 = .none)
       ∧ t = { s with mode := .hold, carousel := t.carousel, host := t.host }
       ∧ t.host = { s.host with answer := some { bytesIn := 1, status := .ok, reply := [] } } ∧ ∀ n, n ≠ 0 → t.stop n = s.stop n)
     ∧ (s.mode = .hold → ∃ t, exec .resume s = .next t ∧ t.mode = .run
       ∧ (∀ l, s.stationAt 0 = some l → l.kind = .load → l.bypassed = false → s.service 0 = .none →
           (s.platen (s.platenAt 0)).garment = none → (s.platen (s.platenAt 0)).blocked = false → t.service 0 = .due)
       ∧ (t.indexPermit = false → s.carousel.dwellLimit * 1000 ≤ s.carousel.dwell → t.carousel.late = true)
       ∧ t = { s with mode := .run, carousel := t.carousel, attention := t.attention, host := t.host }
       ∧ t.host = { s.host with answer := some { bytesIn := 1, status := .ok, reply := [] } } ∧ ∀ n, n ≠ 0 → t.stop n = s.stop n)
     ∧ ((s.mode = .run ∨ s.mode = .hold) → s.garments ≠ [] → ∃ t, exec .drain s = .next t ∧ t.mode = .drain
       ∧ (∀ l, s.stationAt 0 = some l → l.kind = .load → s.service 0 = .due → t.service 0 = .none)
       ∧ t = { s with mode := .drain, carousel := t.carousel, attention := t.attention, host := t.host }
       ∧ t.host = { s.host with answer := some { bytesIn := 1, status := .ok, reply := [] } } ∧ ∀ n, n ≠ 0 → t.stop n = s.stop n)
     ∧ (s.mode = .run → exec .start s = .next (s.answer 1 .ok []) ∧ exec .resume s = .next (s.answer 1 .ok []))
     ∧ (s.mode = .hold → exec .hold s = .next (s.answer 1 .ok []) ∧ exec .start s = .next (s.answer 1 .mode []))
     ∧ (s.mode = .drain → exec .drain s = .next (s.answer 1 .ok []) ∧ exec .start s = .next (s.answer 1 .mode [])
         ∧ exec .hold s = .next (s.answer 1 .mode []) ∧ exec .resume s = .next (s.answer 1 .mode []))
     ∧ (s.mode = .setup → exec .hold s = .next (s.answer 1 .mode []) ∧ exec .resume s = .next (s.answer 1 .mode [])
         ∧ exec .drain s = .next (s.answer 1 .mode [])))
  ∧ (∀ s : State,
     (s.mode = .drain → s.garments = [] → ∃ t, exec .drainEnd s = .next t ∧ t.mode = .setup
       ∧ (∀ n, t.stop n = { service := .none, void := none }) ∧ t.carousel.unloadRecord = none
       ∧ t.tunnel = { s.tunnel with stale := none, stall := none, staleMarker := false, stallMarker := false }
       ∧ t.attention.requests = s.attention.requests ||| Flag.drained.mask ∧ t.indexPermit = false
       ∧ t.carousel.dwell = s.carousel.dwell ∧ t.carousel.origin = s.carousel.origin
       ∧ t = { s with mode := .setup, carousel := t.carousel, tunnel := t.tunnel, attention := t.attention })
     ∧ ((s.mode ≠ .drain ∨ s.garments ≠ []) → exec .drainEnd s = .next s)
     ∧ ((s.mode = .run ∨ s.mode = .hold) → s.garments = [] → ∃ t, exec .drain s = .next t ∧ t.mode = .setup
       ∧ (t.host.answer = some { bytesIn := 1, status := .ok, reply := [] }) ∧ t.requested .drained = true
       ∧ (∀ n, t.stop n = { service := .none, void := none }) ∧ t.tunnel.stale = none ∧ t.tunnel.stall = none))

/-- LINE RESET, block by block (R22, R46, R64, R98, R139, R156, R161). -/
def Obligations.LineResetKeepsWhatWasEntered : Prop :=
  ∀ s : State, ∃ t, exec .lineReset s = .next t ∧ t.mode = .setup
    -- R22
    ∧ t.book.admission = s.book.admission
    ∧ t.book.orders = s.book.orders.map (fun o =>
        { o with
          state := if o.state = .cancelling then .cancelled else o.state
          bin := if o.state = .cancelling then none else o.bin
          lines := o.lines.map fun l => { l with allocated := 0 } })
    ∧ (∀ b, t.bin b = if s.book.orders.any (fun o => o.state == .cancelling && o.bin == some b) then none else s.bin b)
    -- R46
    ∧ t.garmentTable = { s.garmentTable with garments := [] }
    -- R64
    ∧ (∀ n, t.slot n = { (s.slot n) with useCount := 0 }) ∧ t.art.cells = s.art.cells
    ∧ t.art.blockMap = s.art.blockMap
    ∧ (∀ b c, ((t.bank b).useCount = 0) ∧ (t.bank b).entry c =
        { live := ((s.bank b).entry c).pending.getD ((s.bank b).entry c).live, pending := none })
    -- R98
    ∧ (∀ p, t.platen p = { (s.platen p) with garment := none })
    ∧ t.carousel = { s.carousel with
        platens := t.carousel.platens, stops := .replicate 16 {}, unloadRecord := none, dwell := 0, late := false }
    -- R139
    ∧ t.tunnel = { s.tunnel with
        belt := [], conflicts := {}, stale := none, stall := none, staleMarker := false, stallMarker := false }
    -- R156
    ∧ t.pack.exitList = [] ∧ t.pack.returnList = [] ∧ t.pack.presented = none
    -- R161
    ∧ t.attention = { s.attention with
        requests := if ∃ b, State.markedCount (s.bank b) ≠ 0 then Flag.bankApplied.mask else 0 }
    ∧ t.host = { s.host with
        garmentCursor := none, answer := some { bytesIn := 1, status := .ok, reply := [] } }
    ∧ t.station = s.station ∧ t.sheet = s.sheet ∧ t.timebase = s.timebase

/-- The five attention commands (R164): a flag under a 1 in the mask takes the mode, every other flag keeps its value. -/
def Obligations.AttentionCommandsWriteTheirFlags : Prop :=
  ∀ (s : State) (mask : Half),
    (∀ (b : Byte) (v : Bool), twoValued b = some v → ∃ r : BitVec 16,
      (∀ n, n < 16 → r.getLsbD n = if mask.getLsbD n then v else s.attention.requests.getLsbD n)
      ∧ exec (.writeAttentionRequests b mask) s =
          .next ({ s with attention := { s.attention with requests := r } }.answer 4 .ok []))
    ∧ (∀ (b : Byte) (v : Bool), twoValued b = some v → ∃ e : BitVec 16,
      (∀ n, n < 16 → e.getLsbD n = if mask.getLsbD n then v else s.attention.enables.getLsbD n)
      ∧ exec (.writeAttentionEnables b mask) s =
          .next ({ s with attention := { s.attention with enables := e } }.answer 4 .ok []))
    ∧ (∀ (b : Byte) (v : Bool), twoValued b = some v → exec (.setMasterEnable b) s =
          .next ({ s with attention := { s.attention with master := v } }.answer 2 .ok []))
    ∧ (∀ b : Byte, b ≠ 0 → b ≠ 1 → exec (.writeAttentionRequests b mask) s = .next (s.answer 4 .range [])
        ∧ exec (.writeAttentionEnables b mask) s = .next (s.answer 4 .range [])
        ∧ exec (.setMasterEnable b) s = .next (s.answer 2 .range []))
    ∧ (twoValued 0 = some false ∧ twoValued 1 = some true)
    ∧ exec .readAttention s = .next (s.answer 1 .ok (halfBytes s.attention.requests ++ halfBytes s.attention.enables
        ++ [flagByte s.attention.master, flagByte s.attn]))
    ∧ ∃ r : BitVec 16, (∀ n, n < 16 → r.getLsbD n = (!mask.getLsbD n && s.attention.requests.getLsbD n))
      ∧ exec (.takeAttention mask) s = .next ({ s with attention := { s.attention with requests := r } }.answer 3 .ok
          (halfBytes s.attention.requests))
      ∧ (∀ c ∈ [Instr.powerOn, .resetPin], ∃ t, exec c s = .next t ∧ t.attention.master = false)
      ∧ ∃ t, exec .lineReset s = .next t ∧ t.attention.master = s.attention.master
        ∧ t.attention.enables = s.attention.enables

/-- The levels of the two lines out, ATTN (R165) and INDEX PERMIT (R92), in every state, with a raise of a flag that is not
enabled, and after the resets. -/
def Obligations.OutputLinesFollowTheirInputs : Prop :=
  ∀ s : State,
    (s.attn = true ↔ s.attention.master = true ∧
      ∃ f : Flag, s.attention.requests.getLsbD f.number = true ∧ s.attention.enables.getLsbD f.number = true)
    ∧ (s.indexPermit = true ↔ (s.mode = .run ∨ s.mode = .drain) ∧
      ¬ ∃ l, (s.link l).kind.isCarousel = true ∧ (s.link l).bypassed = false ∧ (s.link l).exempt = false
        ∧ (s.service (s.link l).stop = .due ∨ s.service (s.link l).stop = .inService))
    ∧ (∀ f : Flag, s.attention.enables.getLsbD f.number = false → (s.raise f).attn = s.attn)
    ∧ (∀ c ∈ [Instr.powerOn, .resetPin], ∃ t, exec c s = .next t ∧ t.attn = false ∧ t.indexPermit = false)
    ∧ ∃ t, exec .lineReset s = .next t ∧ t.indexPermit = false

/-- The step on an empty queue is one millisecond (log entry 2): timebase, timers, the flags raised when a limit is reached,
SCORCH_RISK at the start of a stall, and the gaps of frames in collection (R93, R94, R100, R129, R136, R162). The rows for
the ends of the dwell, stale and stall timers bring time to the limit, where the end can come (log entry 2 for the rows),
and change nothing where it cannot. -/
def Obligations.TimePassesByMilliseconds : Prop :=
  (∀ s : State, s.pending = [] → ∃ t, step s = .next t
     ∧ t.timebase = (s.timebase + 1) % 2 ^ 32
     ∧ t.carousel.dwell = min 600000 (s.carousel.dwell + 1)
     ∧ t.tunnel.stale = s.tunnel.stale.map (fun n => min 30000 (n + 1))
     ∧ t.tunnel.stall = s.tunnel.stall.map (fun n => min 120000 (n + 1))
     ∧ (t.carousel.late = true ↔ s.carousel.late = true ∨ ((s.mode = .run ∨ s.mode = .drain) ∧ s.indexPermit = false
         ∧ s.carousel.dwellLimit * 1000 ≤ t.carousel.dwell))
     ∧ (t.tunnel.staleMarker = true ↔ s.tunnel.staleMarker = true ∨
         ∃ n, t.tunnel.stale = some n ∧ s.tunnel.staleLimit * 1000 ≤ n)
     ∧ (t.tunnel.stallMarker = true ↔ s.tunnel.stallMarker = true ∨
         ∃ n, t.tunnel.stall = some n ∧ s.tunnel.stallLimit * 1000 ≤ n ∧ ∃ g ∈ s.garments, s.inHeat g = true)
     -- the flags raised are those of the moments that come, and no other
     ∧ (t.requested .stationLate = true ↔ s.requested .stationLate = true
         ∨ (s.carousel.late = false ∧ t.carousel.late = true))
     ∧ (t.requested .tempStale = true ↔ s.requested .tempStale = true
         ∨ (s.tunnel.staleMarker = false ∧ t.tunnel.staleMarker = true))
     ∧ (t.requested .stall = true ↔ s.requested .stall = true
         ∨ (s.tunnel.stallMarker = false ∧ t.tunnel.stallMarker = true))
     ∧ (∀ f : Flag, f ≠ .stationLate → f ≠ .tempStale → f ≠ .stall → t.requested f = s.requested f)
     ∧ t.attention = { s.attention with requests := t.attention.requests }
     -- SCORCH_RISK at the start of a stall, on every garment of the heat zone; at no other moment does a garment change
     ∧ t.garments = (if s.tunnel.stallMarker = false ∧ t.tunnel.stallMarker = true then
           s.garments.map fun g => if s.inHeat g then { g with inspect := { g.inspect with scorchRisk := true } } else g
         else s.garments)
     -- the gap of a frame in collection is over when its count is above 10 (log entry 8)
     ∧ (∀ l gap, (s.link l).receiver = .collecting gap →
         t.link l = { (s.link l) with receiver := if 10 < gap + 1 then .hunting else .collecting (gap + 1) })
     ∧ (∀ l, (∀ gap, (s.link l).receiver ≠ .collecting gap) → t.link l = s.link l)
     ∧ t = { s with
         timebase := t.timebase, garmentTable := { s.garmentTable with garments := t.garments }
         tunnel := { s.tunnel with
           stale := t.tunnel.stale, stall := t.tunnel.stall, staleMarker := t.tunnel.staleMarker
           stallMarker := t.tunnel.stallMarker }
         carousel := { s.carousel with dwell := t.carousel.dwell, late := t.carousel.late }
         station := { s.station with links := t.station.links }, attention := t.attention })
  ∧ (∀ s : State,
     ((s.mode = .run ∨ s.mode = .drain) → s.indexPermit = false → s.carousel.late = false →
       s.carousel.dwell ≤ s.carousel.dwellLimit * 1000 → s.carousel.dwellLimit ≤ 600 →
       ∃ t, exec .stationLate s = .next t ∧ t.carousel.dwell = s.carousel.dwellLimit * 1000 ∧ t.carousel.late = true
         ∧ t.requested .stationLate = true ∧ (∀ n, t.service n = s.service n) ∧ t.indexPermit = false)
     ∧ ((s.mode = .setup ∨ s.mode = .hold ∨ s.indexPermit = true ∨ s.carousel.late = true) →
         exec .stationLate s = .next s)
     ∧ (∀ n, s.tunnel.stale = some n → s.tunnel.staleMarker = false → n ≤ s.tunnel.staleLimit * 1000 →
         s.tunnel.staleLimit ≤ 30 → ∃ t, exec .tempStale s = .next t
           ∧ t.tunnel.stale = some (s.tunnel.staleLimit * 1000) ∧ t.tunnel.staleMarker = true
           ∧ t.requested .tempStale = true ∧ t.tunnel.rates = s.tunnel.rates)
     ∧ ((s.tunnel.stale = none ∨ s.tunnel.staleMarker = true) → exec .tempStale s = .next s)
     ∧ (∀ n, s.tunnel.stall = some n → s.tunnel.stallMarker = false → n ≤ s.tunnel.stallLimit * 1000 →
         s.tunnel.stallLimit ≤ 120 → (∃ g ∈ s.garments, s.inHeat g = true) → ∃ t, exec .stall s = .next t
           ∧ t.tunnel.stall = some (s.tunnel.stallLimit * 1000) ∧ t.tunnel.stallMarker = true
           ∧ t.requested .stall = true
           ∧ t.garments = s.garments.map (fun g =>
               if s.inHeat g then { g with inspect := { g.inspect with scorchRisk := true } } else g))
     ∧ ((s.tunnel.stall = none ∨ s.tunnel.stallMarker = true ∨ ∀ g ∈ s.garments, s.inHeat g = false) →
         exec .stall s = .next s))

/-! ## Order book -/

/-- An order number field is ten decimal digits, or names no number (R7, R178); ADD ORDER takes it, or is refused with
RANGE, EXISTS or FULL in that order (R7). -/
def Obligations.AddOrderChecksAndAdds : Prop :=
  ∀ (number : Bcd5) (cls : Byte) (s : State),
    ((∃ i, i < 10 ∧ 9 < number.toNat / 16 ^ i % 16) → exec (.addOrder number cls) s = .next (s.answer 7 .range []))
    ∧ ((∀ i, i < 10 → number.toNat / 16 ^ i % 16 ≤ 9) → ∃ n, n < 10 ^ 10
        ∧ (∀ i, i < 10 → n / 10 ^ i % 10 = number.toNat / 16 ^ i % 16)
        ∧ (n = 0 ∨ 3 < cls.toNat → exec (.addOrder number cls) s = .next (s.answer 7 .range []))
        ∧ (n ≠ 0 → cls.toNat ≤ 3 →
            ((∃ o ∈ s.book.orders, o.number = n) → exec (.addOrder number cls) s = .next (s.answer 7 .existing []))
            ∧ ((∀ o ∈ s.book.orders, o.number ≠ n) →
                (96 ≤ s.book.orders.length → exec (.addOrder number cls) s = .next (s.answer 7 .full []))
                ∧ (s.book.orders.length < 96 → exec (.addOrder number cls) s = .next
                    ({ s with
                        book := { s.book with
                          orders := s.book.orders ++
                            [({ number := n, cls := cls.toNat, state := .draft, lines := []
                                bin := none, overflow := false } : Order)] }
                        host := { s.host with orderCursor := some n, lineCursor := none } }.answer 7 .ok [])))))

/-- ADD LINE: NO_CURSOR, STATE, RANGE and FULL in that order, and the line it appends (R8); DELETE LINE and COMMIT on a DRAFT,
and their refusals (R9, R10). -/
def Obligations.DraftCommandsAddDeleteAndCommit : Prop :=
  (∀ (style colour size profile orientation mask choke x y ordered : Byte) (s : State),
     let c := Instr.addLine style colour size profile orientation mask choke x y ordered
     let line : Line :=
       { key := { style := style.toNat, colour := colour.toNat, size := size.toNat }
         art := { profile := profile.toNat
                  orient := { exchange := orientation.getLsbD 0, mirrorX := orientation.getLsbD 1
                              mirrorY := orientation.getLsbD 2 }
                  mask := mask.setWidth 6, choke := choke.toInt, x := x.toNat, y := y.toNat }
         ordered := ordered.toNat, allocated := 0, finished := 0, spoiled := 0 }
     (s.orderAtCursor = none → exec c s = .next (s.answer 11 .noCursor []))
     ∧ ∀ o, s.orderAtCursor = some o →
         (o.state ≠ .draft → exec c s = .next (s.answer 11 .state []))
         ∧ (o.state = .draft →
             (15 < size.toNat ∨ 47 < profile.toNat ∨ 63 < mask.toNat ∨ ordered = 0 ∨ 99 < ordered.toNat
                 ∨ 99 < o.total + ordered.toNat → exec c s = .next (s.answer 11 .range []))
             ∧ (size.toNat ≤ 15 → profile.toNat ≤ 47 → mask.toNat ≤ 63 → ordered ≠ 0 → ordered.toNat ≤ 99 →
                 o.total + ordered.toNat ≤ 99 →
                 (16 ≤ o.lines.length ∨ 384 ≤ s.linesInUse → exec c s = .next (s.answer 11 .full []))
                 ∧ (o.lines.length < 16 → s.linesInUse < 384 → ∃ t, exec c s = .next t
                     ∧ t = { s with book := t.book, host := t.host } ∧ t.book.admission = s.book.admission
                     ∧ t.host = { s.host with
                         lineCursor := some o.lines.length
                         answer := some { bytesIn := 11, status := .ok, reply := [] } }
                     ∧ t.order? o.number = some { o with lines := o.lines ++ [line] }
                     ∧ (t.book.orders.map (·.number)) = s.book.orders.map (·.number)
                     ∧ ∀ n, n ≠ o.number → t.order? n = s.order? n))))
  ∧ ∀ s : State,
      (s.orderAtCursor = none → exec .deleteLine s = .next (s.answer 1 .noCursor [])
        ∧ exec .commit s = .next (s.answer 1 .noCursor []))
      ∧ ∀ o, s.orderAtCursor = some o →
          (s.host.lineCursor = none → exec .deleteLine s = .next (s.answer 1 .noCursor []))
          ∧ (∀ i, s.host.lineCursor = some i → i < o.lines.length →
              (o.state ≠ .draft → exec .deleteLine s = .next (s.answer 1 .state []))
              ∧ (o.state = .draft → ∃ t, exec .deleteLine s = .next t ∧ t = { s with book := t.book, host := t.host }
                  ∧ t.order? o.number = some { o with lines := o.lines.take i ++ o.lines.drop (i + 1) }
                  ∧ (∀ n, n ≠ o.number → t.order? n = s.order? n) ∧ t.book.admission = s.book.admission
                  ∧ t.host = { s.host with
                      lineCursor := if i + 1 = o.lines.length then none else some i
                      answer := some { bytesIn := 1, status := .ok, reply := [] } }))
          ∧ (o.state ≠ .draft ∨ o.lines = [] → exec .commit s = .next (s.answer 1 .state []))
          ∧ (o.state = .draft → o.lines ≠ [] → ∃ t, exec .commit s = .next t
              ∧ t = { s with book := t.book, host := t.host }
              ∧ t.host = { s.host with answer := some { bytesIn := 1, status := .ok, reply := [] } }
              ∧ t.book.admission = s.book.admission ++ [o.number]
              ∧ t.order? o.number = some { o with state := .opened } ∧ ∀ n, n ≠ o.number → t.order? n = s.order? n)

/-- EDIT LINE QTY and EDIT LINE ART: checks in order, and what they write (R11, R12); SET PRIORITY, HOLD ORDER and RELEASE
ORDER by the order's state (R13, R14, R15). -/
def Obligations.OrderEditsFollowTheState : Prop :=
  (∀ (ordered profile orientation mask choke x y : Byte) (s : State),
     let q := Instr.editLineQty ordered
     let a := Instr.editLineArt profile orientation mask choke x y
     let art : ArtSettings :=
       { profile := profile.toNat
         orient := { exchange := orientation.getLsbD 0, mirrorX := orientation.getLsbD 1, mirrorY := orientation.getLsbD 2 }
         mask := mask.setWidth 6, choke := choke.toInt, x := x.toNat, y := y.toNat }
     ((s.orderAtCursor = none ∨ s.host.lineCursor = none) →
       exec q s = .next (s.answer 2 .noCursor []) ∧ exec a s = .next (s.answer 7 .noCursor []))
     ∧ ∀ o i l, s.orderAtCursor = some o → s.host.lineCursor = some i → o.lines[i]? = some l →
         let taken := o.state = .draft ∨ o.state = .opened ∨ o.state = .held
         let edited : Order := { o with lines := o.lines.set i { l with ordered := ordered.toNat } }
         let outOfRange := ordered = 0 ∨ 99 < ordered.toNat ∨ ordered.toNat < l.allocated + l.finished
           ∨ 99 < edited.total ∨ ((o.state = .opened ∨ o.state = .held) ∧ ∀ k ∈ edited.lines, k.finished = k.ordered)
         (¬ taken → exec q s = .next (s.answer 2 .state []) ∧ exec a s = .next (s.answer 7 .state []))
         ∧ (taken → outOfRange → exec q s = .next (s.answer 2 .range []))
         ∧ (taken → ¬ outOfRange → ∃ t, exec q s = .next t ∧ t = { s with book := t.book, host := t.host }
             ∧ t.host = { s.host with answer := some { bytesIn := 2, status := .ok, reply := [] } }
             ∧ t.book.admission = s.book.admission ∧ t.order? o.number = some edited
             ∧ ∀ n, n ≠ o.number → t.order? n = s.order? n)
         ∧ (taken → (47 < profile.toNat ∨ 63 < mask.toNat) → exec a s = .next (s.answer 7 .range []))
         ∧ (taken → profile.toNat ≤ 47 → mask.toNat ≤ 63 → ∃ t, exec a s = .next t
             ∧ t = { s with book := t.book, host := t.host }
             ∧ t.host = { s.host with answer := some { bytesIn := 7, status := .ok, reply := [] } }
             ∧ t.book.admission = s.book.admission
             ∧ t.order? o.number = some { o with lines := o.lines.set i { l with art := art } }
             ∧ ∀ n, n ≠ o.number → t.order? n = s.order? n))
  ∧ ∀ (cls : Byte) (s : State),
      (s.orderAtCursor = none → exec (.setPriority cls) s = .next (s.answer 2 .noCursor [])
        ∧ exec .holdOrder s = .next (s.answer 1 .noCursor []) ∧ exec .releaseOrder s = .next (s.answer 1 .noCursor []))
      ∧ ∀ o, s.orderAtCursor = some o →
          let taken := o.state = .draft ∨ o.state = .opened ∨ o.state = .held
          let becomes (c : Instr) (bytes : Nat) (o' : Order) := ∃ t, exec c s = .next t
            ∧ t = { s with book := t.book, host := t.host }
            ∧ t.host = { s.host with answer := some { bytesIn := bytes, status := .ok, reply := [] } }
            ∧ t.book.admission = s.book.admission ∧ t.order? o.number = some o'
            ∧ ∀ n, n ≠ o.number → t.order? n = s.order? n
          (¬ taken → exec (.setPriority cls) s = .next (s.answer 2 .state []))
          ∧ (taken → 3 < cls.toNat → exec (.setPriority cls) s = .next (s.answer 2 .range []))
          ∧ (taken → cls.toNat ≤ 3 → becomes (.setPriority cls) 2 { o with cls := cls.toNat })
          ∧ (o.state = .opened → becomes .holdOrder 1 { o with state := .held }
              ∧ exec .releaseOrder s = .next (s.answer 1 .ok []))
          ∧ (o.state = .held → becomes .releaseOrder 1 { o with state := .opened }
              ∧ exec .holdOrder s = .next (s.answer 1 .ok []))
          ∧ (o.state ≠ .opened → o.state ≠ .held → exec .holdOrder s = .next (s.answer 1 .state [])
              ∧ exec .releaseOrder s = .next (s.answer 1 .state []))

/-- CANCEL ORDER by the order's state: a DRAFT leaves the book as RETIRE ORDER removes it (R16, R18); an OPEN or HELD order
becomes CANCELLING, the reassignment pass runs on it, and it is CANCELLED when nothing of it is allocated after the pass,
its bin handed back, and stays CANCELLING otherwise, its bin kept (R16, R17, R41, R153). What the pass does is the statement
`ReassignmentPassMovesItsCandidates`. -/
def Obligations.CancelOrderFollowsTheState : Prop :=
  ∀ s : State,
    (s.orderAtCursor = none → exec .cancelOrder s = .next (s.answer 1 .noCursor []))
    ∧ ∀ o, s.orderAtCursor = some o →
        -- the bin of the order is handed back, and no other bin changes
        let handedBack (t : State) := (∀ k, o.bin = some k → t.bin k = none) ∧ (∀ k, o.bin ≠ some k → t.bin k = s.bin k)
          ∧ (t.requested .binClear = true ↔ s.requested .binClear = true
              ∨ ∃ k h, o.bin = some k ∧ s.bin k = some h ∧ 0 < h.count)
          ∧ t.pack = { s.pack with bins := t.pack.bins }
        (o.state = .complete → exec .cancelOrder s = .next (s.answer 1 .state []))
        ∧ ((o.state = .cancelling ∨ o.state = .cancelled) → exec .cancelOrder s = .next (s.answer 1 .ok []))
        ∧ (o.state = .draft → ∃ t, exec .cancelOrder s = .next t
            ∧ t.book.orders = s.book.orders.filter (fun k => k.number != o.number)
            ∧ t.book.admission = s.book.admission.filter (fun n => n != o.number)
            ∧ handedBack t
            ∧ t.garments = s.garments.map (fun g =>
                if g.bound.map (·.1) = some o.number then { g with bound := none } else g)
            ∧ t.host = { s.host with
                orderCursor := none, lineCursor := none, answer := some { bytesIn := 1, status := .ok, reply := [] } }
            ∧ (∀ f : Flag, f ≠ .binClear → t.requested f = s.requested f)
            ∧ t = { s with
                book := t.book, garmentTable := { s.garmentTable with garments := t.garments }, pack := t.pack
                attention := { s.attention with requests := t.attention.requests }, host := t.host })
        ∧ ((o.state = .opened ∨ o.state = .held) →
            -- the state the reassignment pass leaves
            let u := (s.modOrder o.number fun k => { k with state := .cancelling }).reassignmentPass o.number
            ∃ t o', exec .cancelOrder s = .next t
              ∧ t.order? o.number = some o' ∧ (u.order? o.number).map (·.lines) = some o'.lines
              ∧ o'.cls = o.cls ∧ o'.lines.length = o.lines.length ∧ o'.overflow = o.overflow
              ∧ (∀ m, m ≠ o.number → t.order? m = u.order? m) ∧ t.book.admission = s.book.admission
              ∧ t.garments = u.garments ∧ t.garmentTable = { s.garmentTable with garments := u.garments }
              ∧ t.art = u.art ∧ t.recipes = u.recipes ∧ t.sheet = u.sheet ∧ (∀ n, t.stop n = u.stop n)
              ∧ t.carousel = { s.carousel with
                  stops := u.carousel.stops, unloadRecord := u.carousel.unloadRecord, late := t.carousel.late }
              ∧ (o'.allocatedSum = 0 → o'.state = .cancelled ∧ o'.bin = none ∧ t.requested .orderCancelled = true
                  ∧ handedBack t)
              ∧ (o'.allocatedSum ≠ 0 → o'.state = .cancelling ∧ o'.bin = o.bin ∧ t.pack = s.pack
                  ∧ t.requested .orderCancelled = s.requested .orderCancelled
                  ∧ t.requested .binClear = s.requested .binClear)
              ∧ t.mode = s.mode ∧ t.timebase = s.timebase ∧ t.station = s.station ∧ t.tunnel = s.tunnel
              ∧ t.host = { s.host with answer := some { bytesIn := 1, status := .ok, reply := [] } }
              ∧ t.garments.map (·.seq) = s.garments.map (·.seq))

/-- The reassignment pass of a cancelled order: its candidates, in ascending order of the stop, as they stand when it begins
(R41); one candidate, moved to the line R31 chooses for its blank key, the old sheet released first and the new one claimed
(R42), or restocked where no line is found (R40), and its stop recomputed; and the whole pass, which takes the candidates
one after the other and leaves every other garment as it is (R41). `CancelOrderFollowsTheState` says where CANCEL ORDER runs
it. -/
def Obligations.ReassignmentPassMovesItsCandidates : Prop :=
  (∀ (s : State) (number : Nat),
     (s.candidates number).Pairwise (fun c d => c.1 < d.1)
     ∧ ∀ n seq, (n, seq) ∈ s.candidates number ↔ n < s.carousel.platenCount ∧ ∃ g, s.garmentAt n = some g ∧ g.seq = seq
         ∧ g.bound.map (·.1) = some number ∧ g.disposition = .active ∧ g.done = {} ∧ g.place.platen? ≠ none
         ∧ s.service n ≠ .inService)
  ∧ (∀ (s : State) (n seq : Nat) (g : Garment), n < 16 → s.garment? seq = some g →
       let t := s.reassign n seq
       let returned := ∀ b o l, g.bound = some b → s.order? b.1 = some o → o.lines[b.2]? = some l → ∃ o',
         t.order? b.1 = some o' ∧ o'.lines = o.lines.set b.2 { l with allocated := l.allocated - 1 }
       let recomputed := (∀ m, m ≠ n → t.stop m = s.stop m) ∧ (t.stop n).void = (s.stop n).void
         ∧ t.service n = if s.service n = .inService ∨ s.service n = .done then s.service n else t.dueState n
       let frame := (∀ q, q ≠ seq → t.garment? q = s.garment? q) ∧ t.garments.map (·.seq) = s.garments.map (·.seq)
         ∧ t.book.admission = s.book.admission
         ∧ (∀ f : Flag, f ≠ .orderCancelled → f ≠ .binClear → f ≠ .bankApplied → t.requested f = s.requested f)
         ∧ t.art = { s.art with slots := t.art.slots }
         ∧ t = { s with
             book := t.book, garmentTable := { s.garmentTable with garments := t.garments }, art := t.art
             recipes := t.recipes, sheet := t.sheet, pack := t.pack, attention := t.attention
             carousel := { s.carousel with stops := t.carousel.stops, unloadRecord := t.carousel.unloadRecord } }
       -- restocked
       (s.chosenLine g.key = none →
         t.garment? seq = some { g with disposition := .restock, claim := none } ∧ returned ∧ recomputed ∧ frame
         ∧ (∀ m, g.bound.map (·.1) ≠ some m → t.order? m = s.order? m) ∧ t.sheet = s.sheet
         ∧ (∀ c, g.claim = some c → (t.bank c.bank).useCount = (s.bank c.bank).useCount - 1
             ∧ (c.slot < 48 → (t.slot c.slot).useCount = (s.slot c.slot).useCount - 1)))
       -- moved to another order's line; the new sheet is computed once the old one is released
       ∧ (∀ b o l, s.chosenLine g.key = some b → s.order? b.1 = some o → o.lines[b.2]? = some l →
           g.bound.map (·.1) ≠ some b.1 → g.done = {} →
           let freed := s.releaseSheet seq
           let sheet := freed.computeSheet l.art g.key
           let empty := sheet.route.pretreat = false ∧ sheet.route.white = false ∧ sheet.route.color = false
           t.garment? seq = some
             { g with
               bound := some b, required := sheet.route, figures := sheet.figures
               claim := if empty then none else some sheet.claim }
           ∧ returned ∧ recomputed ∧ frame
           ∧ t.order? b.1 = some { o with lines := o.lines.set b.2 { l with allocated := l.allocated + 1 } }
           ∧ (∀ m, m ≠ b.1 → g.bound.map (·.1) ≠ some m → t.order? m = s.order? m)
           ∧ t.sheet = { s.sheet with sums := sheet.sums }
           ∧ (∀ k, k < 48 → (t.slot k).useCount =
               (freed.slot k).useCount + (if ¬ empty ∧ k = sheet.claim.slot then 1 else 0))
           ∧ ∀ k, (t.bank k).useCount = (freed.bank k).useCount + (if ¬ empty ∧ k = sheet.claim.bank then 1 else 0)))
  ∧ ∀ (s : State) (number : Nat), s.SettingsInRange → s.PoolForm → s.CarouselForm →
      let t := s.reassignmentPass number
      (∀ q, (∀ n, (n, q) ∉ s.candidates number) → t.garment? q = s.garment? q)
      ∧ (∀ n, (∀ q, (n, q) ∉ s.candidates number) → t.stop n = s.stop n)
      ∧ (∀ before n seq after, s.candidates number = before ++ (n, seq) :: after →
          -- the state the candidates before it have left
          let u := before.foldl (fun v c => v.reassign c.1 c.2) s
          u.garment? seq = s.garment? seq ∧ t.garment? seq = (u.reassign n seq).garment? seq
          ∧ t.stop n = (u.reassign n seq).stop n)
      -- each candidate goes back to the cancelled order as one return on its line
      ∧ ∀ o, s.order? number = some o → o.state = .cancelling → ∃ o', t.order? number = some o'
          ∧ o'.lines.length = o.lines.length
          ∧ ∀ i l, o.lines[i]? = some l →
              let back := (s.candidates number).countP fun c => (s.garment? c.2).any fun g => g.bound == some (number, i)
              o'.lines[i]? = some ({ l with allocated := l.allocated - back } : Line)

/-- RETIRE ORDER: the states it is taken in, and what goes with the order (R18). -/
def Obligations.RetireOrderRemovesTheOrder : Prop :=
  ∀ s : State,
    (s.orderAtCursor = none → exec .retireOrder s = .next (s.answer 1 .noCursor []))
    ∧ ∀ o, s.orderAtCursor = some o →
        let unstarted := ∀ l ∈ o.lines, l.finished = 0 ∧ l.allocated = 0
        let accepted := o.state = .complete ∨ o.state = .cancelled ∨ o.state = .draft
          ∨ ((o.state = .opened ∨ o.state = .held) ∧ unstarted)
        (¬ accepted → exec .retireOrder s = .next (s.answer 1 .state []))
        ∧ (accepted → ∃ t, exec .retireOrder s = .next t
            ∧ t.book.orders = s.book.orders.filter (fun k => k.number != o.number)
            ∧ t.book.admission = s.book.admission.filter (fun n => n != o.number)
            ∧ (∀ b, o.bin = some b → t.bin b = none) ∧ (∀ b, o.bin ≠ some b → t.bin b = s.bin b)
            ∧ (t.requested .binClear = true ↔ s.requested .binClear = true
                ∨ ∃ b h, o.bin = some b ∧ s.bin b = some h ∧ 0 < h.count)
            ∧ t.garments = s.garments.map (fun g =>
                if g.bound.map (·.1) = some o.number then { g with bound := none } else g)
            ∧ t.host.orderCursor = none ∧ t.host.lineCursor = none
            ∧ t.host.garmentCursor = s.host.garmentCursor
            ∧ t = { s with book := t.book, garmentTable := t.garmentTable, pack := t.pack, attention := t.attention
                           host := t.host })

/-- The four counter changes on a line and the checks that follow them (R17, R19, R20), and the cancellation end condition at
the row CANCELLATION_END (R17, R153; log entry 4 for the row). The finish's counter change, `finishLine`, has R20's test
alone: the model makes R17's test of a CANCELLING order after the rise of the bin count (R148; log entry 9), as a step of its
own, `testCancellation`; `PackConfirmCarriesOutTheVerdict` has the two together. -/
def Obligations.CounterChangesMoveTheirCounters : Prop :=
  (∀ (s : State) (o : Order) (i : Nat) (l : Line), s.order? o.number = some o → o.lines[i]? = some l →
     let b := (o.number, i)
     let moved (l' : Line) : Order := { o with lines := o.lines.set i l' }
     -- after the check, an order that ends its cancellation is CANCELLED, without its bin
     let checked (o' : Order) : Order :=
       if o'.state = .cancelling ∧ o'.allocatedSum = 0 then { o' with state := .cancelled, bin := none } else o'
     (s.allocate b).order? o.number = some (moved { l with allocated := l.allocated + 1 })
     ∧ (s.giveBack (some b)).order? o.number = some (checked (moved { l with allocated := l.allocated - 1 }))
     ∧ (s.countSpoil (some b)).order? o.number =
         some (checked (moved { l with allocated := l.allocated - 1, spoiled := min 255 (l.spoiled + 1) }))
     ∧ (let done := moved { l with allocated := l.allocated - 1, finished := l.finished + 1 }
       let complete := (o.state = .opened ∨ o.state = .held) ∧ ∀ k ∈ done.lines, k.finished = k.ordered
       (s.finishLine (some b)).order? o.number = some (if complete then { done with state := .complete } else done)
       ∧ (complete → (s.finishLine (some b)).requested .orderDone = true)
       ∧ (o.state = .cancelling →
           ((s.finishLine (some b)).testCancellation (some b)).order? o.number = some (checked done)))
     ∧ (∀ n, n ≠ o.number → (s.giveBack (some b)).order? n = s.order? n ∧ (s.countSpoil (some b)).order? n = s.order? n
         ∧ (s.finishLine (some b)).order? n = s.order? n ∧ (s.allocate b).order? n = s.order? n))
  ∧ ∀ (s : State) (n : Nat), (s.order? n = none → exec (.cancellationEnd n) s = .next s)
      ∧ ∀ o, s.order? n = some o →
          ((o.state ≠ .cancelling ∨ o.allocatedSum ≠ 0) → exec (.cancellationEnd n) s = .next s)
          ∧ (o.state = .cancelling → o.allocatedSum = 0 → ∃ t, exec (.cancellationEnd n) s = .next t
              ∧ t.order? n = some { o with state := .cancelled, bin := none } ∧ (∀ m, m ≠ n → t.order? m = s.order? m)
              ∧ t.book.admission = s.book.admission ∧ (∀ k, o.bin = some k → t.bin k = none)
              ∧ (∀ k, o.bin ≠ some k → t.bin k = s.bin k) ∧ t.requested .orderCancelled = true
              ∧ (t.requested .binClear = true ↔ s.requested .binClear = true
                  ∨ ∃ k h, o.bin = some k ∧ s.bin k = some h ∧ 0 < h.count)
              ∧ t = { s with book := t.book, pack := t.pack, attention := t.attention })

/-! ## Garment table -/

/-- The line a blank will serve: the first eligible line of the first order of the highest class, in admission-list order;
none where no line is eligible, as for a size above 15 (R31). -/
def Obligations.ChosenLineIsTheFirstEligible : Prop :=
  ∀ (s : State) (key : BlankKey),
    let eligible (o : Order) (l : Line) := o.state = .opened ∧ l.key = key ∧ l.finished + l.allocated < l.ordered
      ∧ (s.slot l.art.profile).state = .ready
    let noneIn (numbers : List Nat) (least : Nat) := ∀ m ∈ numbers, ∀ q, s.order? m = some q → least ≤ q.cls →
      q.cls ≤ 3 → ∀ k ∈ q.lines, ¬ eligible q k
    (s.chosenLine key = none ↔ noneIn s.book.admission 0)
    ∧ (∀ before n after o i l, s.book.admission = before ++ n :: after → s.order? n = some o → o.cls ≤ 3 →
        o.lines[i]? = some l → eligible o l → (∀ j k, j < i → o.lines[j]? = some k → ¬ eligible o k) →
        noneIn before o.cls → noneIn after (o.cls + 1) → s.chosenLine key = some (n, i))
    ∧ (s.BookForm → 15 < key.size → s.chosenLine key = none)

/-- BLANK SCAN: the refusals of the platen at stop 0, a second scan, POOL FULL, STRAY, and the match with everything it
writes (R26, R28, R30, R32, R33, R34, R61, R62, R108). -/
def Obligations.BlankScanMatchesTheChosenLine : Prop :=
  ∀ (link : LinkNo) (style colour size : Byte) (s : State), s.Accepts link .blankScan [style, colour, size] →
    let c := Instr.blankScan link [style, colour, size]
    let key : BlankKey := { style := style.toNat, colour := colour.toNat, size := size.toNat }
    let p := s.platenAt 0
    let refused (code : ReplyCode) := exec c s = .next (s.reply link 0x10 code [])
    ((s.platen p).blocked = true → refused .blocked)
    ∧ ((s.platen p).blocked = false →
        (∀ g, s.garmentAt 0 = some g → g.isMatched = false → refused .occupied)
        ∧ ((∀ g, s.garmentAt 0 = some g → g.isMatched = true) →
            ((s.service 0 = .none ∨ s.service 0 = .done) → refused .notDue)
            ∧ (s.service 0 ≠ .none → s.service 0 ≠ .done →
                -- a second scan cancels the match and goes on as the scan of an empty platen
                (∀ g, s.garmentAt 0 = some g →
                  exec c s = exec c ((s.cancelMatch g).setService 0 .due))
                ∧ (s.garmentAt 0 = none → 64 ≤ s.garments.length → ∃ t, exec c s = .next t
                    ∧ s.Answered t link .blankScan .poolFull []
                    ∧ t = { s with carousel := t.carousel, station := t.station, attention := t.attention }
                    ∧ t.carousel = { s.carousel with late := t.carousel.late }
                    ∧ (t.requested .stray = s.requested .stray))
                ∧ (s.garmentAt 0 = none → s.garments.length < 64 → s.chosenLine key = none → ∃ t, exec c s = .next t
                    ∧ s.Answered t link .blankScan .stray [] ∧ t.requested .stray = true
                    ∧ t = { s with carousel := t.carousel, station := t.station, attention := t.attention }
                    ∧ t.carousel = { s.carousel with late := t.carousel.late })
                ∧ (s.SettingsInRange → s.PoolForm → s.garmentAt 0 = none → s.garments.length < 64 →
                    ∀ n i o l, s.chosenLine key = some (n, i) → s.order? n = some o → o.lines[i]? = some l →
                    let sheet := s.computeSheet l.art key
                    let empty := sheet.route.pretreat = false ∧ sheet.route.white = false ∧ sheet.route.color = false
                    ∃ t seq, exec c s = .next t
                      ∧ (s.garment? s.garmentTable.generator = none → seq = s.garmentTable.generator)
                      ∧ s.garment? seq = none ∧ 1 ≤ seq ∧ seq ≤ 99999999
                      -- the k values from the generator's on that live garments hold are passed over, and no other
                      ∧ (∃ k, k ≤ s.garments.length ∧ seq = (s.garmentTable.generator - 1 + k) % 99999999 + 1
                          ∧ ∀ j, j < k → ∃ g, s.garment? ((s.garmentTable.generator - 1 + j) % 99999999 + 1) = some g)
                      ∧ t.garmentTable.generator = (if seq = 99999999 then 1 else seq + 1)
                      ∧ t.garment? seq = some
                          { seq := seq, key := key, bound := some (n, i), place := .matched p, disposition := .active
                            required := sheet.route, done := {}, laps := 0, recures := 0, inspect := {}
                            figures := sheet.figures, claim := if empty then none else some sheet.claim, cure := 0
                            length := (s.style key.style).length }
                      ∧ (∀ q, q ≠ seq → t.garment? q = s.garment? q) ∧ t.garments.length = s.garments.length + 1
                      ∧ t.order? n = some { o with lines := o.lines.set i { l with allocated := l.allocated + 1 } }
                      ∧ (∀ m, m ≠ n → t.order? m = s.order? m) ∧ t.book.admission = s.book.admission
                      ∧ t.platen p = { garment := some seq, blocked := false } ∧ t.service 0 = .inService
                      ∧ (∀ m, m ≠ 0 → t.stop m = s.stop m)
                      ∧ (¬ empty → (t.slot l.art.profile).useCount = (s.slot l.art.profile).useCount + 1
                          ∧ (t.bank sheet.claim.bank).useCount = (s.bank sheet.claim.bank).useCount + 1)
                      ∧ (empty → ∀ m, t.slot m = s.slot m) ∧ t.sheet = { s.sheet with sums := sheet.sums }
                      ∧ (t.requested .poolLow = true ↔ s.requested .poolLow = true ∨ 60 ≤ s.garments.length)
                      ∧ s.Answered t link .blankScan .ok (ticketBytes (some seq) ++ orderNumberBytes (some n)
                          ++ [itemByte (o.finishedSum + o.allocatedSum + 1), itemByte o.total, sheet.route.byte])
                      ∧ t.mode = s.mode ∧ t.host = s.host ∧ t.tunnel = s.tunnel ∧ t.pack = s.pack))))

/-- A spoil of an ACTIVE garment: disposition, counters, sheet, last-spoil record and SPOIL; a spoil of any other changes
nothing (R36, R39, R62). -/
def Obligations.SpoilReachesAnActiveGarmentOnce : Prop :=
  ∀ (s : State) (seq : Nat) (g : Garment) (reason : SpoilReason), s.garment? seq = some g →
    (g.isActive = false → s.spoil seq reason = s)
    ∧ (g.isActive = true →
        let t := s.spoil seq reason
        t.garment? seq = some { g with disposition := .spoiled reason, claim := none }
        ∧ (∀ n, n ≠ seq → t.garment? n = s.garment? n)
        ∧ t.garmentTable.lastSpoil =
            { ticket := some seq, order := g.bound.map (·.1), line := g.bound.map (·.2), reason := some reason
              count := (s.garmentTable.lastSpoil.count + 1) % 65536 }
        ∧ t.requested .spoil = true
        ∧ (∀ c, g.claim = some c → (t.bank c.bank).useCount = (s.bank c.bank).useCount - 1
            ∧ (c.slot < 48 → (t.slot c.slot).useCount = (s.slot c.slot).useCount - 1))
        ∧ (g.claim = none → t.recipes = s.recipes ∧ t.art = s.art)
        ∧ (∀ b o l, g.bound = some b → s.order? b.1 = some o → o.lines[b.2]? = some l → ∃ o', t.order? b.1 = some o'
            ∧ o'.lines = o.lines.set b.2 { l with allocated := l.allocated - 1, spoiled := min 255 (l.spoiled + 1) })
        ∧ t = { s with
            book := t.book, garmentTable := t.garmentTable, art := t.art, recipes := t.recipes, pack := t.pack
            attention := t.attention })

/-- SPOIL GARMENT by the garment's place; the spoil of the last live garment at the LOAD stop ends a drain (R38, R107,
R160). -/
def Obligations.SpoilGarmentActsByPlace : Prop :=
  ∀ s : State,
    (s.garmentAtCursor = none → exec .spoilGarment s = .next (s.answer 1 .noCursor []))
    ∧ ∀ g, s.garmentAtCursor = some g →
        (g.isActive = false → exec .spoilGarment s = .next (s.answer 1 .state []))
        ∧ (g.isActive = true →
            (g.place = .atExit ∨ g.place = .returning ∨ (∃ n, g.place = .onBelt n) →
              exec .spoilGarment s = .next ((s.spoil g.seq .host).answer 1 .ok []))
            ∧ (∀ p, g.place = .onPlaten p → s.service (s.stopOf p) ≠ .inService →
                exec .spoilGarment s = .next ((s.spoil g.seq .host).answer 1 .ok []))
            ∧ (∀ p, g.place = .onPlaten p → s.service (s.stopOf p) = .inService → ∃ t, exec .spoilGarment s = .next t
                ∧ t.stop (s.stopOf p) = { service := .done, void := some g.seq }
                ∧ (∀ n, n ≠ s.stopOf p → t.stop n = s.stop n)
                ∧ t.garment? g.seq = some { g with disposition := .spoiled .host, claim := none }
                ∧ t.requested .spoil = true
                ∧ t.garmentTable.lastSpoil.reason = some .host ∧ t.garmentTable.lastSpoil.ticket = some g.seq
                ∧ t.mode = s.mode ∧ t.host = { s.host with answer := some { bytesIn := 1, status := .ok, reply := [] } })
            ∧ (∀ p, g.place = .matched p → ∃ t, exec .spoilGarment s = .next t
                ∧ t.garments = s.garments.filter (fun k => k.seq != g.seq)
                ∧ (t.platen (s.platenAt 0)).garment = none ∧ t.requested .spoil = true
                ∧ t.garmentTable.lastSpoil.reason = some .loadAbandoned
                ∧ t.garmentTable.lastSpoil.ticket = some g.seq
                ∧ (∀ b o l, g.bound = some b → s.order? b.1 = some o → o.lines[b.2]? = some l → ∃ o',
                    t.order? b.1 = some o' ∧ o'.lines =
                      o.lines.set b.2 { l with allocated := l.allocated - 1, spoiled := min 255 (l.spoiled + 1) })
                ∧ t.host = { s.host with
                    garmentCursor := none, answer := some { bytesIn := 1, status := .ok, reply := [] } }
                ∧ (s.DrainEndsWith g.seq → t.mode = .setup ∧ t.requested .drained = true ∧ ∀ n, t.service n = .none)
                ∧ (¬ s.DrainEndsWith g.seq → t.mode = s.mode ∧ t.requested .drained = s.requested .drained
                    ∧ t.service 0 = .done ∧ ∀ n, n ≠ 0 → t.stop n = s.stop n)))

/-! ## Artwork store, recipe table, sheet engine -/

/-- PROFILE BEGIN: its checks in order, and the slot, the blocks and the map after it (R50, R51). -/
def Obligations.ProfileBeginTakesTheLowestFreeBlocks : Prop :=
  ∀ (slot w h format sc sr cols rows : Byte) (s : State),
    let c := Instr.profileBegin slot w h format sc sr cols rows
    let n := slot.toNat
    let inRange := n ≤ 47 ∧ 1 ≤ w.toNat ∧ w.toNat ≤ 64 ∧ 1 ≤ h.toNat ∧ h.toNat ≤ 64 ∧ format.toNat ≤ 1
      ∧ 1 ≤ cols.toNat ∧ cols.toNat ≤ 32 ∧ 1 ≤ rows.toNat ∧ rows.toNat ≤ 40 ∧ sc.toNat + cols.toNat ≤ w.toNat
      ∧ sr.toNat + rows.toNat ≤ h.toNat
    let inUse := (s.slot n).state = .ready ∧ 0 < (s.slot n).useCount
    let needed := (w.toNat * h.toNat + 63) / 64
    (¬ inRange → exec c s = .next (s.answer 9 .range []))
    ∧ (inRange → inUse → exec c s = .next (s.answer 9 .busy []))
    ∧ (inRange → ¬ inUse → s.blocksAvailable n < needed → exec c s = .next (s.answer 9 .full []))
    ∧ (inRange → ¬ inUse → needed ≤ s.blocksAvailable n →
        -- no slot but this one is LOADING, and the map names the slot's own blocks and no others
        (∀ m, m ≠ n → (s.slot m).state ≠ .loading) → (∀ b, b < 384 → (b ∈ (s.slot n).chain ↔ s.art.owner b = some n)) →
        (s.slot n).chain.Nodup → (∀ b ∈ (s.slot n).chain, b < 384) → ∃ t, exec c s = .next t
          ∧ t = { s with art := t.art, host := t.host }
          ∧ t.slot n = { state := .loading, width := w.toNat, height := h.toNat
                         format := if format = 0 then .fourBit else .sixBit, startCol := sc.toNat
                         startRow := sr.toNat, cols := cols.toNat, rows := rows.toNat, chain := (t.slot n).chain
                         fill := 0, useCount := (s.slot n).useCount }
          ∧ (∀ m, m ≠ n → t.slot m = s.slot m)
          ∧ (t.slot n).chain.length = needed ∧ (t.slot n).chain.Pairwise (· < ·)
          ∧ (∀ b, b < 384 → (b ∈ (t.slot n).chain ↔ t.art.owner b = some n))
          ∧ (∀ b ∈ (t.slot n).chain, s.art.owner b = none ∨ s.art.owner b = some n)
          ∧ (∀ b, b < 384 → b ∉ (t.slot n).chain → (s.art.owner b = none ∨ s.art.owner b = some n) →
              t.art.owner b = none ∧ ∀ k ∈ (t.slot n).chain, k < b)
          ∧ (∀ i, i < w.toNat * h.toNat → t.art.cell (t.slot n) i = 0)
          ∧ t.host = { s.host with
              answer := some { bytesIn := 9, status := .ok, reply := u8 needed :: u16 t.art.freeCount } })
    -- another slot that is LOADING is abandoned
    ∧ (∀ m, s.loadingSlot = some m → m ≠ n → inRange → ¬ inUse → needed ≤ s.blocksAvailable n → ∃ t, exec c s = .next t
        ∧ t.slot m = { state := .empty, useCount := (s.slot m).useCount } ∧ (t.slot n).state = .loading
        ∧ (t.slot n).fill = 0 ∧ (∀ k, k ≠ n → k ≠ m → t.slot k = s.slot k)
        ∧ (∀ b, b < 384 → t.art.owner b ≠ some m)
        ∧ ∀ b, b < 384 → s.art.owner b ≠ none → s.art.owner b ≠ some m → s.art.owner b ≠ some n →
            t.art.owner b = s.art.owner b)

/-- PROFILE DATA: the cells stored read back at their canvas indexes, every other cell of every slot is as before, and the
reply counts what was stored, ignored and masked (R49, R52; log entry 6 for the masked count of a byte beyond the
canvas). -/
def Obligations.ProfileDataReadsBack : Prop :=
  ∀ (s : State) (n : Nat) (length : Byte) (data : List Byte), s.loadingSlot = some n → 1 ≤ length.toNat →
    length.toNat ≤ 64 → length.toNat ≤ data.length →
    let p := s.slot n
    let cells := (data.take length.toNat).flatMap (cellsOfByte p.format)
    let room := p.width * p.height - p.fill
    p.chain.Nodup → (∀ b ∈ p.chain, b < 384) → p.width * p.height ≤ 64 * p.chain.length → ∃ t,
      exec (.profileData length data) s = .next t
      ∧ t = { s with art := t.art, host := t.host } ∧ t.art.blockMap = s.art.blockMap
      ∧ t.slot n = { p with fill := p.fill + min cells.length room } ∧ (∀ m, m ≠ n → t.slot m = s.slot m)
      ∧ (∀ i c, i < room → cells[i]? = some c → t.art.cell p (p.fill + i) = c)
      ∧ (∀ i, i < p.fill ∨ p.fill + cells.length ≤ i ∨ p.width * p.height ≤ i → t.art.cell p i = s.art.cell p i)
      ∧ (∀ q : Profile, (∀ b ∈ q.chain, b ∉ p.chain) → ∀ i, t.art.cell q i = s.art.cell q i)
      ∧ t.host = { s.host with
          answer := some
            { bytesIn := 2 + length.toNat, status := .ok
              reply := [u8 (min cells.length room), u8 (cells.length - room),
                u8 ((data.take length.toNat).countP fun b => p.format == .sixBit && 64 ≤ b.toNat)] } }

/-- The refusals of PROFILE DATA (R52, R168), PROFILE END and PROFILE FREE by the slot's state, and SET WINDOW (R53 to R55);
READ PROFILE, READ CELLS and READ STORE (R56; log entry 7 for the order of the checks of READ CELLS). -/
def Obligations.ProfileCommandsFollowTheSlot : Prop :=
  (∀ (slot sc sr cols rows length : Byte) (data : List Byte) (s : State),
     let n := slot.toNat
     let inUse := (s.slot n).state = .ready ∧ 0 < (s.slot n).useCount
     let windowInRange := 1 ≤ cols.toNat ∧ cols.toNat ≤ 32 ∧ 1 ≤ rows.toNat ∧ rows.toNat ≤ 40
       ∧ sc.toNat + cols.toNat ≤ (s.slot n).width ∧ sr.toNat + rows.toNat ≤ (s.slot n).height
     let window := Instr.setWindow slot sc sr cols rows
     ((length = 0 ∨ 64 < length.toNat) → exec (.profileData length data) s = .next (s.answer 2 .length []))
     ∧ (s.loadingSlot = none → exec .profileEnd s = .next (s.answer 1 .state [])
         ∧ (1 ≤ length.toNat → length.toNat ≤ 64 → length.toNat ≤ data.length →
             exec (.profileData length data) s = .next (s.answer (2 + length.toNat) .state [])))
     ∧ (∀ m, s.loadingSlot = some m →
         ((s.slot m).fill < (s.slot m).width * (s.slot m).height → exec .profileEnd s = .next (s.answer 1 .state []))
         ∧ ((s.slot m).width * (s.slot m).height ≤ (s.slot m).fill → ∃ t, exec .profileEnd s = .next t
             ∧ t.slot m = { (s.slot m) with state := .ready } ∧ (∀ k, k ≠ m → t.slot k = s.slot k)
             ∧ t = { s with art := { s.art with slots := t.art.slots }, host := t.host }
             ∧ t.host = { s.host with answer := some { bytesIn := 1, status := .ok, reply := [] } }))
     ∧ (47 < n → exec (.profileFree slot) s = .next (s.answer 2 .range []) ∧ exec window s = .next (s.answer 6 .range []))
     ∧ (n ≤ 47 → inUse → exec (.profileFree slot) s = .next (s.answer 2 .busy [])
         ∧ exec window s = .next (s.answer 6 .busy []))
     ∧ (n ≤ 47 → (s.slot n).state = .empty → exec window s = .next (s.answer 6 .state [])
         ∧ exec (.profileFree slot) s = .next (s.answer 2 .ok (u16 s.art.freeCount)))
     ∧ (n ≤ 47 → ¬ inUse → (s.slot n).state ≠ .empty →
         (∃ t, exec (.profileFree slot) s = .next t ∧ t = { s with art := t.art, host := t.host }
           ∧ t.slot n = { state := .empty, useCount := (s.slot n).useCount } ∧ (∀ m, m ≠ n → t.slot m = s.slot m)
           ∧ (∀ b, b < 384 → t.art.owner b = if s.art.owner b = some n then none else s.art.owner b)
           ∧ t.host = { s.host with
               answer := some { bytesIn := 2, status := .ok, reply := u16 t.art.freeCount } })
         ∧ (¬ windowInRange → exec window s = .next (s.answer 6 .range []))
         ∧ (windowInRange → ∃ t, exec window s = .next t
             ∧ t = { s with art := { s.art with slots := t.art.slots }, host := t.host }
             ∧ t.slot n = { (s.slot n) with
                 startCol := sc.toNat, startRow := sr.toNat, cols := cols.toNat, rows := rows.toNat }
             ∧ (∀ m, m ≠ n → t.slot m = s.slot m)
             ∧ t.host = { s.host with answer := some { bytesIn := 6, status := .ok, reply := [] } })))
  ∧ ∀ (slot count : Byte) (index block : Half) (s : State),
      let p := s.slot slot.toNat
      (47 < slot.toNat → exec (.readProfile slot) s = .next (s.answer 2 .range [])
        ∧ exec (.readCells slot index count) s = .next (s.answer 5 .range []))
      ∧ (slot.toNat ≤ 47 → exec (.readProfile slot) s = .next (s.answer 2 .ok
          ([p.state.byte, u8 p.width, u8 p.height, p.format.byte, u8 p.startCol, u8 p.startRow, u8 p.cols, u8 p.rows,
            u8 (p.width - p.cols), u8 p.chain.length] ++ u16 p.fill ++ [u8 p.useCount])))
      ∧ (slot.toNat ≤ 47 → p.state = .empty → exec (.readCells slot index count) s = .next (s.answer 5 .state []))
      ∧ (slot.toNat ≤ 47 → p.state ≠ .empty →
          ((count = 0 ∨ 64 < count.toNat ∨ p.width * p.height < index.toNat + count.toNat) →
            exec (.readCells slot index count) s = .next (s.answer 5 .range []))
          ∧ (count ≠ 0 → count.toNat ≤ 64 → index.toNat + count.toNat ≤ p.width * p.height → ∃ reply,
              exec (.readCells slot index count) s = .next (s.answer 5 .ok reply) ∧ reply.length = count.toNat
              ∧ ∀ i, i < count.toNat → reply[i]? = some ((s.art.cell p (index.toNat + i)).setWidth 8)))
      ∧ (384 ≤ block.toNat → block ≠ 0xFFFF → exec (.readStore block) s = .next (s.answer 3 .range []))
      ∧ exec (.readStore 0xFFFF) s = .next (s.answer 3 .ok (u16 s.art.freeCount ++ [u8OrNone s.loadingSlot]))
      ∧ (block.toNat < 384 → exec (.readStore block) s = .next (s.answer 3 .ok
          (u16 s.art.freeCount ++ [u8OrNone s.loadingSlot, u8OrNone (s.art.owner block.toNat)])))

/-- A recipe write goes to the live entry at use count 0 and to the pending entry above it, DISCARD PENDING clears every
mark, and the reads show both copies (R57, R58, R60). -/
def Obligations.RecipeWritesGoByTheUseCount : Prop :=
  ∀ (bank code w u p : Byte) (s : State),
    ((3 < bank.toNat ∨ 63 < code.toNat) → exec (.writeRecipeFine bank code w u p) s = .next (s.answer 6 .range [])
      ∧ exec (.writeRecipeCoarse bank code w u p) s = .next (s.answer 6 .range [])
      ∧ exec (.readRecipe bank code) s = .next (s.answer 3 .range []))
    ∧ (3 < bank.toNat → exec (.discardPending bank) s = .next (s.answer 2 .range [])
      ∧ exec (.readBank bank) s = .next (s.answer 2 .range []))
    ∧ ((15 < w.toNat ∨ 15 < u.toNat ∨ 15 < p.toNat) →
        exec (.writeRecipeCoarse bank code w u p) s = .next (s.answer 6 .range []))
    ∧ ∀ b : Fin 4, b.val = bank.toNat →
        let written (c : Instr) (r : Recipe) := ∃ t, exec c s = .next t ∧ t = { s with recipes := t.recipes, host := t.host }
          ∧ (∀ b', b' ≠ b → t.bank b' = s.bank b') ∧ (t.bank b).useCount = (s.bank b).useCount
          ∧ (∀ k, k ≠ code.toNat → (t.bank b).entry k = (s.bank b).entry k)
          ∧ (t.bank b).entry code.toNat =
              (if (s.bank b).useCount = 0 then { ((s.bank b).entry code.toNat) with live := r }
                else { ((s.bank b).entry code.toNat) with pending := some r })
          ∧ t.host = { s.host with
              answer := some { bytesIn := 6, status := .ok, reply := [if (s.bank b).useCount = 0 then 0 else 1] } }
        (code.toNat ≤ 63 → written (.writeRecipeFine bank code w u p) { w := w.toNat, u := u.toNat, p := p.toNat })
        ∧ (code.toNat ≤ 63 → w.toNat ≤ 15 → u.toNat ≤ 15 → p.toNat ≤ 15 →
            written (.writeRecipeCoarse bank code w u p) { w := 17 * w.toNat, u := 17 * u.toNat, p := 17 * p.toNat })
        ∧ (∃ t, exec (.discardPending bank) s = .next t ∧ t = { s with recipes := t.recipes, host := t.host }
            ∧ (∀ b', b' ≠ b → t.bank b' = s.bank b') ∧ (t.bank b).useCount = (s.bank b).useCount
            ∧ (∀ k, (t.bank b).entry k = { live := ((s.bank b).entry k).live, pending := none })
            ∧ t.host = { s.host with answer := some { bytesIn := 2, status := .ok, reply := [] } })
        ∧ (code.toNat ≤ 63 → ∀ e, (s.bank b).entry code.toNat = e → exec (.readRecipe bank code) s = .next (s.answer 3 .ok
            ([u8 e.live.w, u8 e.live.u, u8 e.live.p] ++ match e.pending with
              | some q => [1, u8 q.w, u8 q.u, u8 q.p]
              | none => [0, 0, 0, 0])))
        ∧ exec (.readBank bank) s = .next (s.answer 2 .ok [u8 (s.bank b).useCount, u8 (State.markedCount (s.bank b))])

/-- A bank whose use count falls to 0 applies its pending edits and raises BANK_APPLIED where a mark was set, at the sheet
release that brings the fall about and at the row BANK_APPLIED (R59, R61, R62; log entry 4 for the row). -/
def Obligations.BankAppliesAtUseCountZero : Prop :=
  ∀ (s : State) (b : Fin 4),
    let applied (t : State) := (∀ k, (t.bank b).entry k =
        { live := ((s.bank b).entry k).pending.getD ((s.bank b).entry k).live, pending := none })
      ∧ (∀ b', b' ≠ b → t.bank b' = s.bank b')
      ∧ (t.requested .bankApplied = true ↔ s.requested .bankApplied = true ∨ ∃ k, ((s.bank b).entry k).pending.isSome)
    ((s.bank b).useCount = 0 → ∃ t, exec (.bankApplied b) s = .next t ∧ applied t ∧ (t.bank b).useCount = 0
      ∧ t = { s with recipes := t.recipes, attention := t.attention })
    ∧ ((s.bank b).useCount ≠ 0 → exec (.bankApplied b) s = .next s)
    ∧ (∀ seq g c, s.garment? seq = some g → g.claim = some c → c.bank = b →
        let t := s.releaseSheet seq
        t.garment? seq = some { g with claim := none }
        ∧ ((s.bank b).useCount = 1 → applied t ∧ (t.bank b).useCount = 0)
        ∧ (1 < (s.bank b).useCount → t.recipes.banks.toList.map (·.entries) = s.recipes.banks.toList.map (·.entries)
            ∧ (t.bank b).useCount = (s.bank b).useCount - 1)
        ∧ (c.slot < 48 → t.slot c.slot = { (s.slot c.slot) with useCount := (s.slot c.slot).useCount - 1 })
        ∧ t.releaseSheet seq = t)

/-- The blank tables, written and read entry by entry (R23, R24, R25); the sheet settings (R66), and the limits and the ink
tolerance (R93, R94, R95, R118, R128, R129, R136): ranges, what is written, what the readouts return in every state, and
the test made at once where a limit changes, with the flag it raises, SCORCH_RISK where a stall begins. -/
def Obligations.SettingsAreWrittenInRange : Prop :=
  (∀ (index a b : Byte) (cure : Half) (s : State),
     ((7 < a.toNat ∨ b = 0 ∨ 15 < b.toNat) → exec (.setStyle index a b) s = .next (s.answer 4 .range []))
     ∧ (a.toNat ≤ 7 → b ≠ 0 → b.toNat ≤ 15 → ∃ t, exec (.setStyle index a b) s = .next t
         ∧ t = { s with garmentTable := { s.garmentTable with styles := t.garmentTable.styles }, host := t.host }
         ∧ t.host = { s.host with answer := some { bytesIn := 4, status := .ok, reply := [] } }
         ∧ t.style index.toNat = { fabric := a.toNat, length := b.toNat }
         ∧ (∀ n, n ≠ index.toNat → t.style n = s.style n)
         ∧ exec (.readStyle index) t = .next (t.answer 2 .ok [a, b]))
     ∧ (3 < a.toNat → exec (.setColour index a) s = .next (s.answer 3 .range []))
     ∧ (∀ cls : ColourClass, cls.byte = a → ∃ t, exec (.setColour index a) s = .next t
         ∧ t = { s with garmentTable := { s.garmentTable with colours := t.garmentTable.colours }, host := t.host }
         ∧ t.host = { s.host with answer := some { bytesIn := 3, status := .ok, reply := [] } }
         ∧ t.colourClass index.toNat = cls ∧ (∀ n, n ≠ index.toNat → t.colourClass n = s.colourClass n)
         ∧ exec (.readColour index) t = .next (t.answer 2 .ok [a]))
     ∧ (7 < index.toNat → exec (.setFabric index a cure) s = .next (s.answer 5 .range [])
         ∧ exec (.readFabric index) s = .next (s.answer 2 .range []))
     ∧ (index.toNat ≤ 7 → ∃ t, exec (.setFabric index a cure) s = .next t
         ∧ t = { s with garmentTable := { s.garmentTable with fabrics := t.garmentTable.fabrics }, host := t.host }
         ∧ t.host = { s.host with answer := some { bytesIn := 5, status := .ok, reply := [] } }
         ∧ t.fabric index.toNat = { factor := a.toNat, baseCure := cure.toNat }
         ∧ (∀ n, n ≠ index.toNat → t.fabric n = s.fabric n)
         ∧ exec (.readFabric index) t = .next (t.answer 2 .ok (a :: halfBytes cure)))
     -- the readouts, over every state
     ∧ exec (.readStyle index) s = .next (s.answer 2 .ok [u8 (s.style index.toNat).fabric, u8 (s.style index.toNat).length])
     ∧ exec (.readColour index) s = .next (s.answer 2 .ok [(s.colourClass index.toNat).byte])
     ∧ (index.toNat ≤ 7 → exec (.readFabric index) s = .next (s.answer 2 .ok
         (u8 (s.fabric index.toNat).factor :: u16 (s.fabric index.toNat).baseCure)))
     ∧ exec .readInkTolerance s = .next (s.answer 1 .ok [u8 s.station.inkTolerance]))
  ∧ (∀ (v kW kU : Byte) (cap : Half) (s : State),
     (exec (.setEconomy 0) s = .next ({ s with sheet := { s.sheet with economy := false } }.answer 2 .ok []))
     ∧ (exec (.setEconomy 1) s = .next ({ s with sheet := { s.sheet with economy := true } }.answer 2 .ok []))
     ∧ (v ≠ 0 → v ≠ 1 → exec (.setEconomy v) s = .next (s.answer 2 .range []))
     ∧ (cap.toNat ≤ 510 → exec (.setInkCap cap) s =
         .next ({ s with sheet := { s.sheet with inkCap := cap.toNat } }.answer 3 .ok []))
     ∧ (510 < cap.toNat → exec (.setInkCap cap) s = .next (s.answer 3 .range []))
     ∧ (exec (.setCureCoefficients kW kU) s =
         .next ({ s with sheet := { s.sheet with kW := kW.toNat, kU := kU.toNat } }.answer 3 .ok []))
     ∧ exec .readSheetSettings s = .next (s.answer 1 .ok
         ([if s.sheet.economy then 1 else 0] ++ u16 s.sheet.inkCap ++ [u8 s.sheet.kW, u8 s.sheet.kU])))
  ∧ (∀ (b : Byte) (h : Half) (s : State),
     -- the flag raised at the moment the new limit brings, and no other; the command answered OK
     let raisedAlone (t : State) (f : Flag) (now : Prop) := (t.requested f = true ↔ s.requested f = true ∨ now)
       ∧ (∀ k : Flag, k ≠ f → t.requested k = s.requested k)
       ∧ t.attention = { s.attention with requests := t.attention.requests }
     let answeredOk (t : State) (bytes : Nat) :=
       t.host = { s.host with answer := some { bytesIn := bytes, status := .ok, reply := [] } }
     ((h = 0 ∨ 600 < h.toNat) → exec (.setDwellLimit h) s = .next (s.answer 3 .range []))
     ∧ (h ≠ 0 → h.toNat ≤ 600 → ∃ t, exec (.setDwellLimit h) s = .next t ∧ t.carousel.dwellLimit = h.toNat
         ∧ t.carousel = { s.carousel with dwellLimit := h.toNat, late := t.carousel.late }
         ∧ (t.carousel.late = true ↔ s.carousel.late = true ∨ ((s.mode = .run ∨ s.mode = .drain)
             ∧ s.indexPermit = false ∧ h.toNat * 1000 ≤ s.carousel.dwell))
         ∧ raisedAlone t .stationLate (s.carousel.late = false ∧ t.carousel.late = true) ∧ answeredOk t 3
         ∧ t = { s with carousel := t.carousel, attention := t.attention, host := t.host })
     ∧ (3 < b.toNat → exec (.setLapLimit b) s = .next (s.answer 2 .range []))
     ∧ (b.toNat ≤ 3 → exec (.setLapLimit b) s =
         .next ({ s with carousel := { s.carousel with lapLimit := b.toNat } }.answer 2 .ok []))
     ∧ (100 < b.toNat → exec (.setInkTolerance b) s = .next (s.answer 2 .range []))
     ∧ (b.toNat ≤ 100 → ∃ t, exec (.setInkTolerance b) s = .next t
         ∧ t = ({ s with station := { s.station with inkTolerance := b.toNat } }.answer 2 .ok [])
         ∧ exec .readInkTolerance t = .next (t.answer 1 .ok [b]))
     ∧ (300 < h.toNat → exec (.setOvertempLimit h) s = .next (s.answer 3 .range []))
     ∧ (h.toNat ≤ 300 → exec (.setOvertempLimit h) s =
         .next ({ s with tunnel := { s.tunnel with overtempLimit := h.toNat } }.answer 3 .ok []))
     ∧ ((b = 0 ∨ 30 < b.toNat) → exec (.setStaleLimit b) s = .next (s.answer 2 .range []))
     ∧ (b ≠ 0 → b.toNat ≤ 30 → ∃ t, exec (.setStaleLimit b) s = .next t
         ∧ t.tunnel = { s.tunnel with staleLimit := b.toNat, staleMarker := t.tunnel.staleMarker }
         ∧ (t.tunnel.staleMarker = true ↔ s.tunnel.staleMarker = true
             ∨ ∃ n, s.tunnel.stale = some n ∧ b.toNat * 1000 ≤ n)
         ∧ raisedAlone t .tempStale (s.tunnel.staleMarker = false ∧ t.tunnel.staleMarker = true) ∧ answeredOk t 2
         ∧ t = { s with tunnel := t.tunnel, attention := t.attention, host := t.host })
     ∧ ((b = 0 ∨ 120 < b.toNat) → exec (.setStallLimit b) s = .next (s.answer 2 .range []))
     ∧ (b ≠ 0 → b.toNat ≤ 120 → ∃ t, exec (.setStallLimit b) s = .next t
         ∧ t.tunnel = { s.tunnel with stallLimit := b.toNat, stallMarker := t.tunnel.stallMarker }
         ∧ (t.tunnel.stallMarker = true ↔ s.tunnel.stallMarker = true
             ∨ ∃ n, s.tunnel.stall = some n ∧ b.toNat * 1000 ≤ n ∧ ∃ g ∈ s.garments, s.inHeat g = true)
         ∧ raisedAlone t .stall (s.tunnel.stallMarker = false ∧ t.tunnel.stallMarker = true) ∧ answeredOk t 2
         ∧ t.garmentTable = { s.garmentTable with
             garments := if s.tunnel.stallMarker = false ∧ t.tunnel.stallMarker = true then
                 s.garments.map fun g => if s.inHeat g then { g with inspect := { g.inspect with scorchRisk := true } } else g
               else s.garments }
         ∧ t = { s with garmentTable := t.garmentTable, tunnel := t.tunnel, attention := t.attention, host := t.host }))

/-- The rows of a sheet's doses, taken together, are its frozen Dsum, whatever the orientation (R71, R77); the window cell
that garment cell (i, j) reads under each of EXCHANGE, MIRROR_Y and MIRROR_X, every window cell reached once (R76); and the
dose of each column of a row, from the claim (R70, R77). -/
def Obligations.DoseRowsSumToDsum : Prop :=
  (∀ (s : State) (art : ArtSettings) (key : BlankKey),
     let sheet := s.computeSheet art key
     ((List.range sheet.figures.rows).map fun i => (s.doseRow sheet.claim sheet.figures i).sum).sum = sheet.figures.dsum
     ∧ ∀ i, i < sheet.figures.rows → (s.doseRow sheet.claim sheet.figures i).length = sheet.figures.cols
         ∧ ∀ d ∈ s.doseRow sheet.claim sheet.figures i, d ≤ 255)
  ∧ (∀ (o : Orientation) (rows cols : Nat),
     let inFrame (i j : Nat) := i < (if o.exchange = true then cols else rows) ∧ j < (if o.exchange = true then rows else cols)
     (∀ i j, inFrame i j → ∃ a b, windowCellOf o rows cols i j = (a, b) ∧ a < rows ∧ b < cols
       ∧ (o.exchange = false → (o.mirrorY = false → a = i) ∧ (o.mirrorY = true → a = rows - 1 - i)
           ∧ (o.mirrorX = false → b = j) ∧ (o.mirrorX = true → b = cols - 1 - j))
       ∧ (o.exchange = true → (o.mirrorY = false → a = j) ∧ (o.mirrorY = true → a = rows - 1 - j)
           ∧ (o.mirrorX = false → b = i) ∧ (o.mirrorX = true → b = cols - 1 - i)))
     ∧ ∀ a b, a < rows → b < cols → ∃ i j, inFrame i j ∧ windowCellOf o rows cols i j = (a, b)
         ∧ ∀ i' j', inFrame i' j' → windowCellOf o rows cols i' j' = (a, b) → i' = i ∧ j' = j)
  ∧ ∀ (s : State) (c : Claim) (f : SheetFigures) (i j : Nat), j < f.cols →
      let ab := windowCellOf f.orient c.rows c.cols i j
      let cell := s.art.cell (s.slot c.slot) ((c.startRow + ab.1) * (s.slot c.slot).width + c.startCol + ab.2)
      let load := ((s.bank c.bank).entry (cell ^^^ c.mask).toNat).live.p
      let scaled : Int := ((load * c.factor + 64) / 128 : Nat) - c.choke
      (s.doseRow c f i)[j]? = some (if load = 0 then 0 else (max 0 (min 255 scaled)).toNat)

/-- The figures of a sheet: the sums over the window cells of each cell's white, colour, capped flag and dose, by the mask
(R67), the economy rounding (R68), the ink cap (R69) and the pretreatment dose (R70, R71); their bounds; Q, the white passes
and the route (R72 to R74); the size of the garment frame and the other figures, and the inputs frozen in the claim (R24,
R75, R76). -/
def Obligations.SheetFiguresFollowTheSums : Prop :=
  ∀ (s : State) (art : ArtSettings) (key : BlankKey),
    let sheet := s.computeSheet art key
    let f := sheet.figures
    let p := s.slot art.profile
    let fab := s.fabric (s.style key.style).fabric
    let cls := s.colourClass key.colour
    let cap := s.sheet.inkCap
    -- window cell (r, k), its recipe by the effective code, and its ink after the economy stage
    let live (r k : Nat) :=
      ((s.bank cls.bank).entry (s.art.cell p ((p.startRow + r) * p.width + p.startCol + k) ^^^ art.mask).toNat).live
    let rounded (v : Nat) := if s.sheet.economy = true then v - v % 32 else v
    let ink (r k : Nat) := rounded (live r k).w + rounded (live r k).u
    let total (cell : Nat → Nat → Nat) :=
      ((List.range p.rows).map fun r => ((List.range p.cols).map fun k => cell r k).sum).sum
    f.wsum = total (fun r k => min cap (rounded (live r k).w))
    ∧ f.usum = total (fun r k => min cap (ink r k) - min cap (rounded (live r k).w))
    ∧ f.capped = total (fun r k => if cap < ink r k then 1 else 0)
    ∧ f.dsum = total (fun r k =>
        let scaled : Int := (((live r k).p * fab.factor + 64) / 128 : Nat) - art.choke
        if (live r k).p = 0 then 0 else (max 0 (min 255 scaled)).toNat)
    ∧ sheet.sums = { wsum := f.wsum, usum := f.usum, dsum := f.dsum, capped := f.capped }
    ∧ (∀ cap w u, (capInk cap w u).1 + (capInk cap w u).2.1 = min cap (w + u) ∧ (capInk cap w u).1 = min cap w
      ∧ ((capInk cap w u).2.2 = true ↔ cap < w + u))
    ∧ ((∀ b c, (((s.bank b).entry c).live.w ≤ 255 ∧ ((s.bank b).entry c).live.u ≤ 255)) →
        f.wsum ≤ 255 * (p.rows * p.cols) ∧ f.usum ≤ 255 * (p.rows * p.cols))
    ∧ f.dsum ≤ 255 * (p.rows * p.cols)
    ∧ f.wsum + f.usum ≤ cap * (p.rows * p.cols) ∧ f.capped ≤ p.rows * p.cols
    ∧ f.rows * f.cols = p.rows * p.cols
    ∧ f.cureDemand = min 65535 (fab.baseCure + (f.wsum * s.sheet.kW + f.usum * s.sheet.kU) / 1024)
    ∧ (f.passes = 0 ↔ f.wsum = 0) ∧ (f.passes = 2 ↔ 0 < f.wsum ∧ cls = .dark ∧ s.sheet.economy = false) ∧ f.passes ≤ 2
    ∧ (sheet.route.pretreat = true ↔ 0 < f.dsum) ∧ (sheet.route.press = sheet.route.pretreat)
    ∧ (sheet.route.white = true ↔ 0 < f.wsum) ∧ (sheet.route.color = true ↔ 0 < f.usum)
    ∧ f.rows = (if art.orient.exchange = true then p.cols else p.rows)
    ∧ f.cols = (if art.orient.exchange = true then p.rows else p.cols)
    ∧ f.orient = art.orient ∧ f.profile = art.profile ∧ f.x = art.x ∧ f.y = art.y
    ∧ sheet.claim =
        { slot := art.profile, bank := cls.bank, startCol := p.startCol, startRow := p.startRow, cols := p.cols
          rows := p.rows, mask := art.mask, choke := art.choke, factor := fab.factor }
    ∧ cls.bank = (match cls with | .light => 0 | .mid => 1 | .dark => 2 | .heather => 3)

/-! ## Carousel -/

/-- SET PLATEN COUNT, SET ORIGIN, ASSIGN STATION and SET BELT GEOMETRY: MODE outside SETUP, RANGE, and what each writes (R78,
R79, R82, R123, R170); SET CURE CURVE in every mode (R125, R168). -/
def Obligations.ConfigurationIsWrittenInSetup : Prop :=
  (∀ (count origin link kind stop : Byte) (s : State),
     let assign := Instr.assignStation link kind stop
     (s.mode ≠ .setup → exec (.setPlatenCount count) s = .next (s.answer 2 .mode [])
       ∧ exec (.setOrigin origin) s = .next (s.answer 2 .mode []) ∧ exec assign s = .next (s.answer 4 .mode []))
     ∧ (s.mode = .setup →
         ((count.toNat < 4 ∨ 16 < count.toNat) → exec (.setPlatenCount count) s = .next (s.answer 2 .range []))
         ∧ (4 ≤ count.toNat → count.toNat ≤ 16 → ∃ t, exec (.setPlatenCount count) s = .next t
             ∧ t.carousel = { s.carousel with
                 platenCount := count.toNat, origin := 0, platens := .replicate 16 {}, stops := .replicate 16 {}
                 unloadRecord := none }
             ∧ t = { s with carousel := t.carousel, host := t.host }
             ∧ t.host = { s.host with answer := some { bytesIn := 2, status := .ok, reply := [] } })
         ∧ (s.carousel.platenCount ≤ origin.toNat → exec (.setOrigin origin) s = .next (s.answer 2 .range []))
         ∧ (origin.toNat < s.carousel.platenCount → s.carousel.platenCount ≤ 16 → ∃ t,
             exec (.setOrigin origin) s = .next t
             ∧ t = ({ s with carousel := { s.carousel with origin := origin.toNat } }.answer 2 .ok [])
             -- R79: after it, platen (P - o) mod P stands at stop 0
             ∧ t.platenAt 0 = (s.carousel.platenCount - origin.toNat) % s.carousel.platenCount)
         ∧ ((7 < link.toNat ∨ 8 < kind.toNat ∨ (kind.toNat ≤ 5 ∧ 15 < stop.toNat)) →
             exec assign s = .next (s.answer 4 .range []))
         ∧ (∀ (l : LinkNo) (k : StationKind), l.val = link.toNat → k.byte = kind →
             (k.isCarousel = true → stop.toNat ≤ 15) → ∃ t, exec assign s = .next t
               ∧ t.link l = { (s.link l) with
                   kind := k, stop := if k.isCarousel then stop.toNat else 0, bypassed := false, exempt := false }
               ∧ (∀ l', l' ≠ l → t.link l' = s.link l')
               ∧ t = { s with station := t.station, host := t.host } ∧ t.station.inkTolerance = s.station.inkTolerance
               ∧ t.host = { s.host with answer := some { bytesIn := 4, status := .ok, reply := [] } })))
  ∧ (∀ (belt entry heat exit segments seg0 seg1 seg2 seg3 gap : Byte) (s : State),
      let c := Instr.setBeltGeometry belt entry heat exit segments seg0 seg1 seg2 seg3 gap
      let lens := ([seg0, seg1, seg2, seg3].take segments.toNat).map (·.toNat)
      let valid := 16 ≤ belt.toNat ∧ belt.toNat ≤ 240 ∧ 8 ≤ entry.toNat ∧ entry.toNat ≤ 64 ∧ 1 ≤ heat.toNat
        ∧ heat.toNat ≤ 200 ∧ exit.toNat ≤ 223 ∧ 1 ≤ segments.toNat ∧ segments.toNat ≤ 4 ∧ gap.toNat ≤ 7
        ∧ entry.toNat + heat.toNat + exit.toNat = belt.toNat ∧ (∀ n ∈ lens, 1 ≤ n ∧ n ≤ 200) ∧ lens.sum = heat.toNat
      (s.mode ≠ .setup → exec c s = .next (s.answer 11 .mode []))
      ∧ (s.mode = .setup → ¬ valid → exec c s = .next (s.answer 11 .range []))
      ∧ (s.mode = .setup → valid → ∃ t, exec c s = .next t
          ∧ t = ({ s with tunnel := { s.tunnel with geometry := t.tunnel.geometry } }.answer 11 .ok [])
          ∧ t.tunnel.geometry = { isSet := true, belt := belt.toNat, entry := entry.toNat, heat := heat.toNat
                                  exit := exit.toNat, segments := segments.toNat
                                  lengths := t.tunnel.geometry.lengths, gap := gap.toNat }
          ∧ t.tunnel.geometry.lengths.toList.take segments.toNat = lens))
  ∧ ∀ (length : Byte) (data : List Byte) (points : List CurvePoint) (s : State),
      (length.toNat % 3 ≠ 0 → exec (.setCureCurve length data) s = .next (s.answer 2 .length []))
      ∧ (length.toNat = 3 * points.length → (∀ p ∈ points, p.temp < 65536 ∧ p.rate < 256) →
          data = points.flatMap (fun p => u16 p.temp ++ [u8 p.rate]) →
          let valid := 2 ≤ points.length ∧ points.length ≤ 8 ∧ (∀ p ∈ points, p.temp ≤ 300)
            ∧ points.Pairwise fun p q => p.temp < q.temp ∧ p.rate ≤ q.rate
          (¬ valid → exec (.setCureCurve length data) s = .next (s.answer (2 + length.toNat) .range []))
          ∧ (valid → exec (.setCureCurve length data) s =
              .next ({ s with tunnel := { s.tunnel with curve := points } }.answer (2 + length.toNat) .ok [])))

/-- BLOCK PLATEN and UNBLOCK PLATEN: refusals, the flag, and the LOAD stop recomputed at once (R81); SET STATION MODE and
SET GATE EXEMPT: refusals, what they write, and the stop of a bypassed or enabled station (R83, R84). -/
def Obligations.CarouselSwitchesActAtOnce : Prop :=
  (∀ (platen : Byte) (s : State),
     let p := platen.toNat
     let cases (c : Instr) (blocked : Bool) :=
       (s.carousel.platenCount ≤ p → exec c s = .next (s.answer 2 .range []))
       ∧ (p < s.carousel.platenCount → (s.platen p).garment ≠ none → exec c s = .next (s.answer 2 .state []))
       ∧ (p < s.carousel.platenCount → (s.platen p).garment = none → (s.platen p).blocked = blocked →
           exec c s = .next (s.answer 2 .ok []))
       ∧ (p < s.carousel.platenCount → s.carousel.platenCount ≤ 16 → (s.platen p).garment = none →
           (s.platen p).blocked ≠ blocked → ∃ t, exec c s = .next t
             ∧ t.platen p = { garment := none, blocked := blocked } ∧ (∀ q, q ≠ p → t.platen q = s.platen q)
             ∧ (∀ n, n ≠ 0 → t.stop n = s.stop n) ∧ (s.platenAt 0 ≠ p → t.stop 0 = s.stop 0)
             ∧ (s.platenAt 0 = p → (s.service 0 = .none ∨ s.service 0 = .due) →
                 ∀ l, s.stationAt 0 = some l → l.kind = .load →
                   t.service 0 = if blocked = false ∧ s.mode = .run ∧ l.bypassed = false then .due else .none)
             ∧ t = { s with carousel := t.carousel, attention := t.attention, host := t.host }
             ∧ t.carousel.origin = s.carousel.origin ∧ t.carousel.platenCount = s.carousel.platenCount
             ∧ t.host = { s.host with answer := some { bytesIn := 2, status := .ok, reply := [] } })
     cases (.blockPlaten platen) true ∧ cases (.unblockPlaten platen) false)
  ∧ (∀ (link value : Byte) (s : State),
     let mode := Instr.setStationMode link value
     let exempt := Instr.setGateExempt link value
     ((7 < link.toNat ∨ 1 < value.toNat) → exec mode s = .next (s.answer 3 .range [])
       ∧ exec exempt s = .next (s.answer 3 .range []))
     ∧ ∀ (l : LinkNo) (v : Bool), l.val = link.toNat → twoValued value = some v →
         ((s.link l).kind = .unassigned → exec mode s = .next (s.answer 3 .state []))
         ∧ ((s.link l).kind.isCarousel = false → exec exempt s = .next (s.answer 3 .state []))
         ∧ ((s.link l).kind ≠ .unassigned → (s.link l).bypassed = v → exec mode s = .next (s.answer 3 .ok []))
         ∧ ((s.link l).kind.isCarousel = true → (s.link l).exempt = v → exec exempt s = .next (s.answer 3 .ok []))
         ∧ ((s.link l).kind.isCarousel = true → (s.link l).exempt ≠ v → ∃ t, exec exempt s = .next t
             ∧ t.link l = { (s.link l) with exempt := v } ∧ (∀ l', l' ≠ l → t.link l' = s.link l')
             ∧ (∀ n, t.stop n = s.stop n)
             ∧ t = { s with
                 station := t.station, carousel := t.carousel, attention := t.attention, host := t.host }
             ∧ t.host = { s.host with answer := some { bytesIn := 3, status := .ok, reply := [] } })
         ∧ ((s.link l).kind ≠ .unassigned → (s.link l).bypassed ≠ v → ∃ t, exec mode s = .next t
             ∧ t.link l = { (s.link l) with bypassed := v } ∧ (∀ l', l' ≠ l → t.link l' = s.link l')
             ∧ (∀ n, n ≠ (s.link l).stop → t.stop n = s.stop n)
             ∧ ((s.link l).kind.isCarousel = false → t.stop (s.link l).stop = s.stop (s.link l).stop)
             ∧ ((s.link l).kind.isCarousel = true → v = true → t.service (s.link l).stop =
                 (if s.service (s.link l).stop = .due ∨ s.service (s.link l).stop = .missed then .none
                   else s.service (s.link l).stop))
             ∧ ((s.link l).kind.isCarousel = true → v = false → s.service (s.link l).stop ≠ .none →
                 t.service (s.link l).stop = s.service (s.link l).stop)
             ∧ ((s.link l).kind.isCarousel = true → v = false → s.service (s.link l).stop = .none →
                 (s.link l).stop < 16 → t.service (s.link l).stop = t.dueState (s.link l).stop)
             ∧ t = { s with
                 station := t.station, carousel := t.carousel, attention := t.attention, host := t.host }
             ∧ t.host = { s.host with answer := some { bytesIn := 3, status := .ok, reply := [] } }))

/-- The service state a stop is recomputed to (R86). -/
def Obligations.ServiceStatesFollowTheTable : Prop :=
  ∀ (s : State) (n : Nat),
    (s.stationAt n = none → s.dueState n = .none)
    ∧ ∀ l, s.stationAt n = some l →
        (l.bypassed = true → s.dueState n = .none)
        ∧ (l.bypassed = false → l.kind = .load → s.dueState n =
            if s.mode = .run ∧ (s.platen (s.platenAt n)).garment = none ∧ (s.platen (s.platenAt n)).blocked = false
            then .due else .none)
        ∧ (l.bypassed = false → l.kind ≠ .load → s.garmentAt n = none → s.dueState n = .none)
        ∧ ∀ g, l.bypassed = false → s.garmentAt n = some g →
            let owes (required done : Bool) := g.disposition = .active ∧ required = true ∧ done = false
            let met := g.required.pretreat = false ∨ g.done.press = true
            (l.kind = .unload → s.dueState n = .due)
            ∧ (l.kind = .pretreat →
                (s.dueState n = .due ↔ owes g.required.pretreat g.done.pretreat) ∧ s.dueState n ≠ .missed)
            ∧ (l.kind = .press →
                (s.dueState n = .due ↔ owes g.required.press g.done.press ∧ g.done.pretreat = true)
                ∧ (s.dueState n = .missed ↔ owes g.required.press g.done.press ∧ g.done.pretreat = false))
            ∧ (l.kind = .printW →
                (s.dueState n = .due ↔ owes g.required.white g.done.white ∧ met)
                ∧ (s.dueState n = .missed ↔ owes g.required.white g.done.white ∧ ¬ met))
            ∧ (l.kind = .printC →
                (s.dueState n = .due ↔ owes g.required.color g.done.color
                  ∧ (g.required.white = false ∨ g.done.white = true) ∧ met)
                ∧ (s.dueState n = .missed ↔ owes g.required.color g.done.color
                  ∧ ¬ ((g.required.white = false ∨ g.done.white = true) ∧ met)))
            ∧ (l.kind ≠ .load → s.dueState n ≠ .inService ∧ s.dueState n ≠ .done)

/-- An index event in its four stages, in every line mode: the forced-index effects, one at each stop in an order that R89
leaves open (log entry 3: it is seen in the last-spoil record alone), then the turn, the stops recomputed, the dwell timer;
FORCED_INDEX; and the end of the drain where the event retired the last garment, as a forced load cancel can (R88, R89, R90,
R107, R121, R160). The effect at one stop is the statement `ForcedIndexEffectsByKind`. -/
def Obligations.IndexEventTurnsTheCarousel : Prop :=
  ∀ s : State, 0 < s.carousel.platenCount → s.carousel.platenCount ≤ 16 →
    s.carousel.origin < s.carousel.platenCount →
    -- the stops in the order of the effects, and the state the effects leave
    let e := s.effectOrder.foldl State.forcedEffect s
    let ends := s.mode = .drain ∧ s.garments ≠ [] ∧ e.garments = []
    s.effectOrder.Perm (List.range s.carousel.platenCount)
    ∧ ∃ t, exec .index s = .next t
      ∧ t = { e with
          mode := t.mode, carousel := t.carousel, tunnel := t.tunnel, choices := t.choices
          attention := { e.attention with requests := t.attention.requests } }
      ∧ t.carousel = { e.carousel with
          origin := (s.carousel.origin + 1) % s.carousel.platenCount, stops := t.carousel.stops, unloadRecord := none
          dwell := 0, late := false }
      ∧ (∀ n, n + 1 < s.carousel.platenCount → t.platenAt (n + 1) = s.platenAt n)
      ∧ t.platenAt 0 = s.platenAt (s.carousel.platenCount - 1)
      ∧ t.carousel.platenCount = s.carousel.platenCount ∧ t.carousel.dwellLimit = s.carousel.dwellLimit
      ∧ t.carousel.lapLimit = s.carousel.lapLimit
      ∧ (t.requested .forcedIndex = true ↔ s.requested .forcedIndex = true ∨ ∃ n, n < s.carousel.platenCount
          ∧ (s.service n = .inService ∨ (s.service n = .due ∧
            ∃ l, s.stationAt n = some l ∧ l.bypassed = false ∧ l.exempt = false)))
      ∧ (∀ f : Flag, f ≠ .forcedIndex → f ≠ .drained → t.requested f = e.requested f)
      ∧ (¬ ends → t.mode = s.mode ∧ t.tunnel = e.tunnel ∧ t.requested .drained = s.requested .drained
          ∧ ∀ n, n < s.carousel.platenCount → t.stop n = { service := t.dueState n, void := none })
      ∧ (ends → t.mode = .setup ∧ t.requested .drained = true ∧ (∀ n, t.stop n = { service := .none, void := none })
          ∧ t.tunnel = { e.tunnel with stale := none, stall := none, staleMarker := false, stallMarker := false })
      -- the one garment live is MATCHED at the LOAD stop: its match is cancelled, and the drain ends
      ∧ (∀ g l, s.mode = .drain → s.garments = [g] → s.garmentAt 0 = some g → g.isMatched = true →
          s.stationAt 0 = some l → l.kind = .load → s.service 0 = .inService → t.garments = [] ∧ t.mode = .setup)
      ∧ t.station = s.station ∧ t.sheet = s.sheet ∧ t.timebase = s.timebase ∧ t.host.answer = s.host.answer

/-- The forced-index effect at one stop, by the kind of its station (R89); and the effects of one index event together: in
the order the event takes them (log entry 3), each garment before a stop ends as the effect of that stop alone leaves it,
and every other garment is as before (R88, R89). -/
def Obligations.ForcedIndexEffectsByKind : Prop :=
  (∀ (s : State) (n : Nat) (l : Link) (g : Garment), s.stationAt n = some l → s.garmentAt n = some g →
     let t := s.forcedEffect n
     (s.service n ≠ .due → s.service n ≠ .inService → t = s)
     ∧ (s.service n = .due → l.kind ≠ .unload → t = s)
     ∧ (s.service n = .inService → l.kind = .press → t = s)
     ∧ ((s.service n = .due ∨ s.service n = .inService) → l.kind = .unload →
         t.garment? g.seq = some { g with laps := min 3 (g.laps + 1) }
         ∧ (∀ q, q ≠ g.seq → t.garment? q = s.garment? q) ∧ t = { s with garmentTable := t.garmentTable })
     ∧ (s.service n = .inService → l.kind = .pretreat →
         (∃ g', t.garment? g.seq = some g' ∧ g'.done = { g.done with pretreat := true }
           ∧ g'.inspect = { g.inspect with partialPretreat := true } ∧ g'.disposition = g.disposition ∧ g'.place = g.place
           ∧ g'.claim =
             (if (g.required.white = true ∧ g.done.white = false) ∨ (g.required.color = true ∧ g.done.color = false)
               then g.claim else none))
         ∧ ∀ q, q ≠ g.seq → t.garment? q = s.garment? q)
     ∧ (s.service n = .inService → (l.kind = .printW ∨ l.kind = .printC) → t = s.spoil g.seq .printFault)
     ∧ (s.service n = .inService → l.kind = .load → g.isMatched = true →
         t.garments = s.garments.filter (fun k => k.seq != g.seq) ∧ (t.platen (s.platenAt 0)).garment = none
         ∧ (∀ b o k, g.bound = some b → s.order? b.1 = some o → o.lines[b.2]? = some k → ∃ o', t.order? b.1 = some o'
             ∧ o'.lines = o.lines.set b.2 { k with allocated := k.allocated - 1 })
         ∧ t.garmentTable.lastSpoil = s.garmentTable.lastSpoil))
  ∧ ∀ s : State,
      let e := s.effectOrder.foldl State.forcedEffect s
      (∀ q, (∀ n, n < s.carousel.platenCount → (s.platen (s.platenAt n)).garment ≠ some q) →
        e.garment? q = s.garment? q)
      ∧ (s.SettingsInRange → s.PoolForm → s.CarouselForm → ∀ n g, n < s.carousel.platenCount → s.garmentAt n = some g →
          e.garment? g.seq = (s.forcedEffect n).garment? g.seq)

/-! ## Station requests -/

/-- The tests of a completion report, in order; one that fails gives its reply, and nothing but the link changes; a report
that passes them all, at an IN_SERVICE stop or, for UNLOAD DONE, at a DUE stop with a recorded WAIT, is accepted for the
garment, and answered OK or, for an operand of its own out of range, RANGE (R106, R107, R121). -/
def Obligations.ReportsAreTestedInOrder : Prop :=
  ∀ (rq : Request) (link : LinkNo) (payload : List Byte) (s : State) (seq : Nat),
    rq ∈ [Request.loadDone, .doseDone, .pressDone, .printDone, .printFault, .unloadDone] →
    s.Accepts link rq payload → payloadTicket payload = some seq →
    let n := if rq = .loadDone then 0 else (s.link link).stop
    let refused (code : ReplyCode) := exec (rq.command link payload) s = .next (s.reply link rq.code code [])
    (s.garment? seq = none → refused .mismatch)
    ∧ ∀ g, s.garment? seq = some g →
        ((s.platen (s.platenAt n)).garment ≠ some seq → refused .late)
        ∧ ((s.platen (s.platenAt n)).garment = some seq →
            ((s.service n = .none ∨ s.service n = .missed) → refused .notDue)
            ∧ (s.service n = .done → (s.stop n).void = some seq → refused .void)
            ∧ (s.service n = .done → (s.stop n).void ≠ some seq → refused .notDue)
            ∧ (s.service n = .due → ¬ (rq = .unloadDone ∧ s.carousel.unloadRecord = some .wait) →
                refused .notInService)
            ∧ ((s.service n = .inService
                ∨ (s.service n = .due ∧ rq = .unloadDone ∧ s.carousel.unloadRecord = some .wait)) →
                s.reportTest n seq (rq == .unloadDone) = .ok g
                ∧ ∃ t, exec (rq.command link payload) s = .next t ∧ (t.link link).lastRequest = some rq.code
                  ∧ ((t.link link).lastReply = some .ok ∨ (t.link link).lastReply = some .range)))

/-- LOAD DONE lays the MATCHED garment on its platen, and LOAD SKIP sends the platen on empty, by the state of stop 0 (R35,
R109, R110, R160). -/
def Obligations.LoadReportsConfirmOrSkip : Prop :=
  ∀ (link : LinkNo) (payload : List Byte) (s : State),
    (∀ g, s.Accepts link .loadDone payload → s.ReportOn 0 payload g → ∃ t, exec (.loadDone link payload) s = .next t
      ∧ s.Answered t link .loadDone .ok []
      ∧ t.garment? g.seq = some { g with place := .onPlaten (s.platenAt 0) }
      ∧ (∀ q, q ≠ g.seq → t.garment? q = s.garment? q)
      ∧ t.service 0 = .done ∧ (t.stop 0).void = (s.stop 0).void ∧ (∀ n, n ≠ 0 → t.stop n = s.stop n)
      ∧ t = { s with
          garmentTable := { s.garmentTable with garments := t.garments }
          carousel := { s.carousel with stops := t.carousel.stops }, station := t.station })
    ∧ (s.Accepts link .loadSkip payload →
        ((s.service 0 = .none ∨ s.service 0 = .done ∨ s.service 0 = .missed) →
          exec (.loadSkip link payload) s = .next (s.reply link 0x12 .notDue []))
        ∧ (s.service 0 = .due → ∃ t, exec (.loadSkip link payload) s = .next t ∧ s.Answered t link .loadSkip .ok []
            ∧ t.service 0 = .done ∧ (∀ n, n ≠ 0 → t.stop n = s.stop n)
            ∧ t = { s with carousel := { s.carousel with stops := t.carousel.stops }, station := t.station })
        ∧ ∀ g, s.service 0 = .inService → s.garmentAt 0 = some g → g.isMatched = true → ∃ t,
            exec (.loadSkip link payload) s = .next t ∧ s.Answered t link .loadSkip .ok []
            ∧ t.garments = s.garments.filter (fun k => k.seq != g.seq) ∧ (t.platen (s.platenAt 0)).garment = none
            ∧ (∀ b o k, g.bound = some b → s.order? b.1 = some o → o.lines[b.2]? = some k → ∃ o', t.order? b.1 = some o'
                ∧ o'.lines = o.lines.set b.2 { k with allocated := k.allocated - 1 })
            ∧ t.garmentTable.lastSpoil = s.garmentTable.lastSpoil
            ∧ t.garmentTable.generator = s.garmentTable.generator
            ∧ (s.DrainEndsWith g.seq → t.mode = .setup ∧ t.requested .drained = true ∧ ∀ n, t.service n = .none)
            ∧ (¬ s.DrainEndsWith g.seq → t.mode = s.mode ∧ t.service 0 = .done ∧ ∀ n, n ≠ 0 → t.stop n = s.stop n))

/-- SHEET, PRESS START and JOB FETCH by the state of the link's stop, with the fields each returns, and DOSE ROW (R77, R105,
R111, R112, R114, R116). -/
def Obligations.ServiceBeginsAtADueStop : Prop :=
  (∀ (rq : Request) (link : LinkNo) (s : State), (rq = .sheet ∨ rq = .pressStart ∨ rq = .jobFetch) →
    s.Accepts link rq [] →
    let n := (s.link link).stop
    let c := rq.command link []
    let white := (s.link link).kind = .printW
    let fields (g : Garment) : List Byte :=
      let f := g.figures
      if rq = .sheet then
        ticketBytes (some g.seq) ++ [u8 f.rows, u8 f.cols] ++ u24 f.dsum ++ [f.orient.byte]
      else if rq = .pressStart then ticketBytes (some g.seq)
      else
        ticketBytes (some g.seq) ++ [u8 f.profile, f.orient.byte]
          ++ [if f.orient.exchange then u8 f.rows else u8 f.cols, if f.orient.exchange then u8 f.cols else u8 f.rows]
          ++ [u8 f.x, u8 f.y, if white then u8 f.passes else 0] ++ u16 f.capped
          ++ u24 (if white then f.wsum * f.passes else f.usum)
    ((s.service n = .none ∨ s.service n = .done ∨ s.service n = .missed) →
      exec c s = .next (s.reply link rq.code .notDue []))
    ∧ (∀ g, s.service n = .inService → s.garmentAt n = some g → exec c s = .next (s.reply link rq.code .ok (fields g)))
    ∧ (n < 16 → s.service n = .due → (∀ g, s.garmentAt n = some g → g.disposition ≠ .active) → ∃ t, exec c s = .next t
        ∧ s.Answered t link rq .notDue [] ∧ t.stop n = { (s.stop n) with service := .done }
        ∧ (∀ m, m ≠ n → t.stop m = s.stop m)
        ∧ t = { s with carousel := { s.carousel with stops := t.carousel.stops }, station := t.station })
    ∧ ∀ g, n < 16 → s.service n = .due → s.garmentAt n = some g → g.disposition = .active → ∃ t, exec c s = .next t
        ∧ s.Answered t link rq .ok (fields g) ∧ t.stop n = { (s.stop n) with service := .inService }
        ∧ (∀ m, m ≠ n → t.stop m = s.stop m)
        ∧ t = { s with
            carousel := { s.carousel with stops := t.carousel.stops, late := t.carousel.late }
            attention := t.attention, station := t.station })
  ∧ ∀ (link : LinkNo) (row : Byte) (s : State), s.Accepts link .doseRow [row] →
      let n := (s.link link).stop
      let answered (code : ReplyCode) (payload : List Byte) :=
        exec (.doseRow link [row]) s = .next (s.reply link 0x21 code payload)
      (s.service n ≠ .inService → answered .notInService [])
      ∧ ∀ g c, s.service n = .inService → s.garmentAt n = some g → g.claim = some c →
          (g.figures.rows ≤ row.toNat → answered .range [])
          ∧ (row.toNat < g.figures.rows → answered .ok ((List.range g.figures.cols).map fun j =>
              let ab := windowCellOf g.figures.orient c.rows c.cols row.toNat j
              let cell := s.art.cell (s.slot c.slot)
                ((c.startRow + ab.1) * (s.slot c.slot).width + c.startCol + ab.2)
              let load := ((s.bank c.bank).entry (cell ^^^ c.mask).toNat).live.p
              let scaled : Int := ((load * c.factor + 64) / 128 : Nat) - c.choke
              u8 (if load = 0 then 0 else (max 0 (min 255 scaled)).toNat)))

/-- An accepted DOSE DONE, PRESS DONE, PRINT DONE or PRINT FAULT: the step, the inspect reasons, the release of the sheet,
the stop and the reply (R36, R62, R104, R113, R115, R117, R119). -/
def Obligations.WorkReportsMarkTheirStep : Prop :=
  ∀ (rq : Request) (link : LinkNo) (payload : List Byte) (s : State) (g : Garment),
    let n := (s.link link).stop
    s.Accepts link rq payload → s.ReportOn n payload g → n < 16 →
    let c := rq.command link payload
    let white := (s.link link).kind = .printW
    let claimAfter (done : StepSet) : Option Claim :=
      if (g.required.pretreat = true ∧ done.pretreat = false) ∨ (g.required.white = true ∧ done.white = false)
        ∨ (g.required.color = true ∧ done.color = false) then g.claim else none
    let marked (g' : Garment) (reply : List Byte) := ∃ t, exec c s = .next t ∧ s.Answered t link rq .ok reply
      ∧ t.garment? g.seq = some g' ∧ (∀ q, q ≠ g.seq → t.garment? q = s.garment? q)
      ∧ t.stop n = { (s.stop n) with service := .done } ∧ (∀ m, m ≠ n → t.stop m = s.stop m)
      ∧ t = { s with
          garmentTable := { s.garmentTable with garments := t.garments }, art := t.art, recipes := t.recipes
          carousel := { s.carousel with stops := t.carousel.stops }, attention := t.attention, station := t.station }
    (rq = .doseDone →
      let rows := (payloadByte payload 5).toNat
      let done := { g.done with pretreat := true }
      (g.figures.rows < rows → exec c s = .next (s.reply link 0x22 .range []))
      ∧ (rows = 0 → marked g [])
      ∧ (0 < rows → rows ≤ g.figures.rows → marked
          { g with
            done := done, claim := claimAfter done
            inspect := { g.inspect with partialPretreat := g.inspect.partialPretreat || decide (rows < g.figures.rows) } }
          []))
    ∧ (rq = .pressDone →
        let done := { g.done with press := true }
        marked { g with done := done, claim := claimAfter done } [])
    ∧ (rq = .printDone →
        let used := payloadHalf payload 5 * 16
        let expected := if white then g.figures.wsum * g.figures.passes else g.figures.usum
        let deviates : Bool := s.station.inkTolerance * expected < ((used - expected) + (expected - used)) * 100
        let done := if white then { g.done with white := true } else { g.done with color := true }
        marked
          { g with
            done := done, claim := claimAfter done
            inspect := { g.inspect with inkDeviation := g.inspect.inkDeviation || deviates } }
          [if deviates then 1 else 0])
    ∧ (rq = .printFault → g.disposition = .active → ∃ t, exec c s = .next t
        ∧ t.link link = { (s.link link) with
            receiver := .answering (replyFrame 0x42 .ok []), lastRequest := some 0x42, lastReply := some .ok
            lastFault := some (g.seq, payloadByte payload 5) }
        ∧ (∀ l, l ≠ link → t.link l = s.link l)
        ∧ t.garment? g.seq = some { g with disposition := .spoiled .printFault, claim := none }
        ∧ (∀ q, q ≠ g.seq → t.garment? q = s.garment? q)
        ∧ t.stop n = { (s.stop n) with service := .done } ∧ (∀ m, m ≠ n → t.stop m = s.stop m)
        ∧ t.requested .spoil = true ∧ t.garmentTable.lastSpoil.ticket = some g.seq
        ∧ t.garmentTable.lastSpoil.reason = some .printFault ∧ t.mode = s.mode ∧ t.tunnel = s.tunnel ∧ t.host = s.host)

/-- UNLOAD QUERY chooses and records the instruction, and UNLOAD DONE has the effect of its action (R37, R43, R89, R120 to
R122, R132, R160). -/
def Obligations.UnloadFollowsItsInstructions : Prop :=
  (∀ (link : LinkNo) (s : State), s.Accepts link .unloadQuery [] → (s.link link).stop < 16 →
    let n := (s.link link).stop
    let c := Instr.unloadQuery link []
    let gives (i : UnloadInstruction) (ticket : Option Nat) (cause : Byte) (record : Option UnloadInstruction)
        (state : Service) := ∃ t, exec c s = .next t
      ∧ s.Answered t link .unloadQuery .ok ([i.byte] ++ ticketBytes ticket ++ [cause])
      ∧ t.carousel.unloadRecord = record ∧ t.stop n = { (s.stop n) with service := state }
      ∧ (∀ m, m ≠ n → t.stop m = s.stop m)
      ∧ t = { s with
          carousel := { s.carousel with
            stops := t.carousel.stops, unloadRecord := t.carousel.unloadRecord, late := t.carousel.late }
          attention := t.attention, station := t.station }
    ((s.service n = .done ∨ s.service n = .missed) → exec c s = .next (s.reply link 0x50 .notDue []))
    ∧ (∀ i g, s.service n = .inService → s.garmentAt n = some g → s.carousel.unloadRecord = some i →
        exec c s = .next (s.reply link 0x50 .ok ([i.byte] ++ ticketBytes (some g.seq) ++ [i.causeByte])))
    ∧ ((s.service n = .none ∨ s.service n = .due) →
        (s.garmentAt n = none → gives .empty none 0xFF none .done)
        ∧ ∀ g, s.garmentAt n = some g →
            let owed := (g.required.pretreat = true ∧ g.done.pretreat = false)
              ∨ (g.required.press = true ∧ g.done.press = false) ∨ (g.required.white = true ∧ g.done.white = false)
              ∨ (g.required.color = true ∧ g.done.color = false)
            (g.disposition ≠ .active →
              gives (.discard .disposition) (some g.seq) 0 (some (.discard .disposition)) .inService)
            ∧ (g.disposition = .active → owed →
                (s.carousel.lapLimit ≤ g.laps →
                  gives (.discard .lapLimit) (some g.seq) 1 (some (.discard .lapLimit)) .inService)
                ∧ (g.laps < s.carousel.lapLimit →
                  gives .recirculate (some g.seq) 0xFF (some .recirculate) .inService))
            ∧ (g.disposition = .active → ¬ owed →
                (s.entryClear g.length = true → gives .transfer (some g.seq) 0xFF (some .transfer) .inService)
                ∧ (s.entryClear g.length = false → gives .wait (some g.seq) 0xFF (some .wait) (s.service n)))))
  ∧ ∀ (link : LinkNo) (payload : List Byte) (s : State) (seq : Nat) (g : Garment),
      let n := (s.link link).stop
      let c := Instr.unloadDone link payload
      let action := (payloadByte payload 5).toNat
      s.Accepts link .unloadDone payload → payloadTicket payload = some seq → s.reportTest n seq true = .ok g →
      n < 16 →
      (2 < action → exec c s = .next (s.reply link 0x51 .range []))
      ∧ (action = 2 → ∃ t, exec c s = .next t ∧ s.Answered t link .unloadDone .ok []
          ∧ t.garment? seq = some { g with laps := min 3 (g.laps + 1) }
          ∧ (∀ q, q ≠ seq → t.garment? q = s.garment? q)
          ∧ t.stop n = { (s.stop n) with service := .done } ∧ (∀ m, m ≠ n → t.stop m = s.stop m)
          ∧ t = { s with
              garmentTable := { s.garmentTable with garments := t.garments }
              carousel := { s.carousel with stops := t.carousel.stops }, station := t.station })
      ∧ (action = 1 → ∃ t, exec c s = .next t ∧ s.Answered t link .unloadDone .ok []
          ∧ t.garments = s.garments.filter (fun k => k.seq != seq) ∧ (t.platen (s.platenAt n)).garment = none
          ∧ (g.disposition = .active → t.requested .spoil = true ∧ t.garmentTable.lastSpoil.ticket = some seq
              ∧ t.garmentTable.lastSpoil.reason = some
                (if s.carousel.unloadRecord = some (.discard .lapLimit) then .missedStep else .unloadDiscard))
          ∧ (g.disposition ≠ .active → t.book = s.book
              ∧ t.garmentTable.lastSpoil = s.garmentTable.lastSpoil)
          ∧ (s.DrainEndsWith seq → t.mode = .setup ∧ t.requested .drained = true ∧ ∀ m, t.service m = .none)
          ∧ (¬ s.DrainEndsWith seq → t.mode = s.mode ∧ t.service n = .done ∧ ∀ m, m ≠ n → t.stop m = s.stop m))
      ∧ (action = 0 →
          let clear := s.entryClear g.length
          ∃ t, exec c s = .next t ∧ s.Answered t link .unloadDone .ok []
            ∧ (t.platen (s.platenAt n)).garment = none ∧ (∀ p, p ≠ s.platenAt n → t.platen p = s.platen p)
            ∧ t.garment? seq = some { g with
                place := .onBelt 0
                inspect := { g.inspect with
                  beltOverlap := g.inspect.beltOverlap || !clear
                  forcedTransfer := g.inspect.forcedTransfer || decide (s.carousel.unloadRecord ≠ some .transfer) } }
            ∧ (∀ q, q ≠ seq → (clear = true ∨ s.tunnel.belt.getLast? ≠ some q) → t.garment? q = s.garment? q)
            ∧ (∀ q k, q ≠ seq → clear = false → s.tunnel.belt.getLast? = some q → s.garment? q = some k →
                t.garment? q = some { k with inspect := { k.inspect with beltOverlap := true } })
            ∧ t.tunnel = { s.tunnel with
                belt := s.tunnel.belt ++ [seq]
                conflicts := { s.tunnel.conflicts with entryOverlap := s.tunnel.conflicts.entryOverlap || !clear } }
            ∧ (t.requested .conflict = true ↔ s.requested .conflict = true ∨ clear = false)
            ∧ t.stop n = { (s.stop n) with service := .done } ∧ (∀ m, m ≠ n → t.stop m = s.stop m)
            ∧ t = { s with
                garmentTable := { s.garmentTable with garments := t.garments }, tunnel := t.tunnel
                carousel := { s.carousel with platens := t.carousel.platens, stops := t.carousel.stops }
                attention := t.attention, station := t.station })

/-! ## Tunnel and pack -/

/-- A BELT TICK moves every garment of the belt list on by one cell, cures it by the rate of the segment its middle cell
reaches, and sends it to the exit list at the end of the belt; outside SETUP the stall timer restarts (R124, R130, R134,
R136, R140). -/
def Obligations.BeltTickMovesTheBelt : Prop :=
  ∀ s : State, s.tunnel.belt.Nodup →
    (∀ seq ∈ s.tunnel.belt, ∃ g tail, s.garment? seq = some g ∧ g.place = .onBelt tail) →
    let geo := s.tunnel.geometry
    let leaves (seq : Nat) : Bool := (s.garment? seq).any fun g => g.place.tail?.any fun tail => geo.belt ≤ tail + 1
    ∃ t, exec .beltTick s = .next t
      ∧ (∀ seq g tail, seq ∈ s.tunnel.belt → s.garment? seq = some g → g.place = .onBelt tail →
          (geo.belt ≤ tail + 1 → t.garment? seq = some { g with place := .atExit })
          ∧ (tail + 1 < geo.belt → ∃ cure, t.garment? seq = some { g with place := .onBelt (tail + 1), cure := cure }
              ∧ let cell := tail + 1 + (g.length - 1) / 2
                ((cell < geo.entry ∨ geo.entry + geo.heat ≤ cell) → cure = g.cure)
                ∧ ∀ k, k < 4 → k < geo.segments → geo.entry + (geo.lengths.toList.take k).sum ≤ cell →
                    cell < geo.entry + (geo.lengths.toList.take (k + 1)).sum → cell < geo.entry + geo.heat →
                    cure = min 65535 (g.cure + s.tunnel.rates[k]?.getD 0)))
      ∧ (∀ seq, seq ∉ s.tunnel.belt → t.garment? seq = s.garment? seq)
      ∧ t.garments.map (·.seq) = s.garments.map (·.seq)
      ∧ t.pack = { s.pack with exitList := s.pack.exitList ++ s.tunnel.belt.filter leaves }
      ∧ t.tunnel = { s.tunnel with
          belt := s.tunnel.belt.filter fun seq => !leaves seq
          stall := if s.mode = .setup then s.tunnel.stall else some 0
          stallMarker := if s.mode = .setup then s.tunnel.stallMarker else false }
      ∧ t = { s with
          garmentTable := { s.garmentTable with garments := t.garments }, pack := t.pack, tunnel := t.tunnel }

/-- The cure curve's rate of a temperature, and TEMP REPORT: LENGTH, or the held temperatures and rates, the stale timer and
OVERTEMP (R126 to R129). -/
def Obligations.TempReportsSetTheRates : Prop :=
  (∀ (c : List CurvePoint) (T : Nat), curveRises c = true →
    (∀ p rest, c = p :: rest → T < p.temp → curveRate c T = 0)
    ∧ (∀ before p q after, c = before ++ p :: q :: after → p.temp ≤ T → T < q.temp →
        curveRate c T = p.rate + (T - p.temp) * (q.rate - p.rate) / (q.temp - p.temp))
    ∧ (∀ before p, c = before ++ [p] → p.temp ≤ T → curveRate c T = p.rate)
    ∧ ∀ T', T ≤ T' → curveRate c T ≤ curveRate c T')
  ∧ ∀ (link : LinkNo) (payload : List Byte) (s : State), s.Accepts link .tempReport payload →
      let count := payload.length / 2
      let temp (k : Nat) := min 300 (payloadHalf payload (2 * k))
      (count ≠ s.tunnel.geometry.segments → exec (.tempReport link payload) s = .next (s.reply link 0x60 .length []))
      ∧ (count = s.tunnel.geometry.segments → ∃ t r, exec (.tempReport link payload) s = .next t
          ∧ s.Answered t link .tempReport .ok r ∧ r.length = count
          ∧ (∀ k, k < count → t.tunnel.temps[k]? = some (temp k)
              ∧ t.tunnel.rates[k]? = some (curveRate s.tunnel.curve (temp k))
              ∧ r[k]? = some (u8 (curveRate s.tunnel.curve (temp k))))
          ∧ (∀ k, count ≤ k → t.tunnel.temps[k]? = s.tunnel.temps[k]? ∧ t.tunnel.rates[k]? = s.tunnel.rates[k]?)
          ∧ t.tunnel = { s.tunnel with
              temps := t.tunnel.temps, rates := t.tunnel.rates, stale := some 0, staleMarker := false }
          ∧ (t.requested .overtemp = true ↔ s.requested .overtemp = true
              ∨ ∃ k, k < count ∧ s.tunnel.overtempLimit < temp k)
          ∧ t = { s with tunnel := t.tunnel, attention := t.attention, station := t.station })

/-- When entry is clear, RETURN PLACED with what a placement records (R131, R132, R152), and READ CONFLICTS, which returns
the conflict set and empties it (R133). -/
def Obligations.ReturnsArePlacedBehindTheBelt : Prop :=
  (∀ (link : LinkNo) (payload : List Byte) (s : State) (seq : Nat),
     (∀ len, (s.tunnel.belt = [] → s.entryClear len = true)
       ∧ ∀ front b k tail, s.tunnel.belt = front ++ [b] → s.garment? b = some k → k.place = .onBelt tail →
           (s.entryClear len = true ↔ len + s.tunnel.geometry.gap ≤ tail))
     ∧ (s.Accepts link .returnPlaced payload → payloadTicket payload = some seq →
         let mode := (payloadByte payload 5).toNat
         let refused (code : ReplyCode) := exec (.returnPlaced link payload) s = .next (s.reply link 0x72 code [])
         (1 < mode → refused .range)
         ∧ (mode ≤ 1 →
             (s.garment? seq = none → refused .unknown)
             ∧ ∀ g, s.garment? seq = some g →
                 let clear := s.entryClear g.length
                 (g.place ≠ .returning → refused .notReturning)
                 ∧ (g.place = .returning → mode = 0 → clear = false → refused .wait)
                 ∧ (g.place = .returning → mode = 1 ∨ clear = true → ∃ t, exec (.returnPlaced link payload) s = .next t
                     ∧ s.Answered t link .returnPlaced .ok []
                     ∧ t.garment? seq = some { g with
                         place := .onBelt 0
                         inspect := { g.inspect with beltOverlap := g.inspect.beltOverlap || !clear } }
                     ∧ (∀ q, q ≠ seq → (clear = true ∨ s.tunnel.belt.getLast? ≠ some q) → t.garment? q = s.garment? q)
                     ∧ (∀ q k, q ≠ seq → clear = false → s.tunnel.belt.getLast? = some q → s.garment? q = some k →
                         t.garment? q = some { k with inspect := { k.inspect with beltOverlap := true } })
                     ∧ t.pack = { s.pack with returnList := s.pack.returnList.filter (fun k => k != seq) }
                     ∧ t.tunnel = { s.tunnel with
                         belt := s.tunnel.belt ++ [seq]
                         conflicts := { s.tunnel.conflicts with
                           returnOverlap := s.tunnel.conflicts.returnOverlap || !clear } }
                     ∧ (t.requested .conflict = true ↔ s.requested .conflict = true ∨ clear = false)
                     ∧ t = { s with
                         garmentTable := { s.garmentTable with garments := t.garments }, tunnel := t.tunnel
                         pack := t.pack, attention := t.attention, station := t.station }))))
  ∧ ∀ s : State, exec .readConflicts s = .next ({ s with tunnel := { s.tunnel with conflicts := {} } }.answer 1 .ok
      [(if s.tunnel.conflicts.entryOverlap then 1 else 0) + (if s.tunnel.conflicts.returnOverlap then 2 else 0)])

/-- PACK SCAN by the garment's place, and the verdict of the first test that applies, with the bin it takes (R142, R144 to
R146). -/
def Obligations.PackScanGivesTheFirstVerdict : Prop :=
  ∀ (link : LinkNo) (payload : List Byte) (s : State) (seq : Nat), s.Accepts link .packScan payload →
    payloadTicket payload = some seq →
    let c := Instr.packScan link payload
    let refused (code : ReplyCode) := exec c s = .next (s.reply link 0x70 code [])
    (s.garment? seq = none → refused .unknown)
    ∧ ∀ g, s.garment? seq = some g →
        (g.place.platen? ≠ none → refused .onCarousel)
        ∧ (g.place = .returning → refused .returnPending)
        ∧ ∀ onBelt : Bool, ((onBelt = false ∧ g.place = .atExit) ∨ (onBelt = true ∧ ∃ tail, g.place = .onBelt tail)) →
            let presents (t : State) (v : Verdict) (cause : Option RejectCause) (o : Option Order) (counts : List Byte)
                (bin : Option Nat) := exec c s = .next t
              ∧ t.pack.presented = some { seq := seq, verdict := v, cause := cause, bin := bin }
              ∧ s.Answered t link .packScan .ok ([v.byte, u8OrNone (cause.map (·.code))]
                  ++ orderNumberBytes (o.map (·.number)) ++ counts ++ [u8OrNone bin, flagByte onBelt])
              ∧ t.pack.exitList = s.pack.exitList ∧ t.pack.returnList = s.pack.returnList
              ∧ t = { s with book := t.book, pack := t.pack, station := t.station, attention := t.attention }
            let keeps (t : State) := t.book = s.book ∧ t.pack.bins = s.pack.bins ∧ t.attention = s.attention
            ((∀ b, g.bound = some b → s.order? b.1 = none) → ∃ t,
              presents t .reject (some .noOrder) none [0, 0] none ∧ keeps t)
            ∧ ∀ b o, g.bound = some b → s.order? b.1 = some o →
                let rejected := [0, itemByte o.total]
                let counted := [itemByte (o.finishedSum + 1), itemByte o.total]
                let cancelled := o.state = .cancelling ∨ o.state = .cancelled
                let cured := g.figures.cureDemand ≤ g.cure
                (g.disposition ≠ .active → ∃ t, presents t .reject (some .disposition) (some o) rejected o.bin ∧ keeps t)
                ∧ (g.disposition = .active → cancelled → ∃ t,
                    presents t .reject (some .cancelled) (some o) rejected o.bin ∧ keeps t)
                ∧ (g.disposition = .active → ¬ cancelled → ¬ cured → ∃ t,
                    (if g.recures < 2 then presents t .recure none (some o) counted o.bin
                      else presents t .reject (some .undercureLimit) (some o) rejected o.bin)
                    ∧ t.book = s.book ∧ t.pack.bins = s.pack.bins ∧ t.requested .undercure = true)
                ∧ (g.disposition = .active → ¬ cancelled → cured →
                    (g.inspect ≠ {} → ∃ t, presents t .inspect none (some o) counted o.bin ∧ keeps t)
                    ∧ (g.inspect = {} →
                        (o.total = 1 → ∃ t, presents t .single none (some o) counted o.bin ∧ keeps t)
                        ∧ (o.total ≠ 1 → o.finishedSum + 1 = o.total → ∃ t,
                            presents t .ship none (some o) counted o.bin ∧ keeps t)
                        ∧ (o.total ≠ 1 → o.finishedSum + 1 ≠ o.total →
                            (o.overflow = true → ∃ t, presents t .overflow none (some o) counted o.bin ∧ keeps t)
                            ∧ (o.overflow = false → o.bin ≠ none → ∃ t,
                                presents t .pack none (some o) counted o.bin ∧ keeps t)
                            ∧ (o.overflow = false → o.bin = none →
                                (∀ k, k < 32 → s.bin k = none → (∀ j, j < k → s.bin j ≠ none) → ∃ t,
                                  presents t .pack none (some o) counted (some k)
                                  ∧ t.bin k = some { order := o.number, count := 0 }
                                  ∧ (∀ j, j ≠ k → t.bin j = s.bin j)
                                  ∧ t.order? b.1 = some { o with bin := some k }
                                  ∧ (∀ m, m ≠ b.1 → t.order? m = s.order? m) ∧ t.attention = s.attention)
                                ∧ ((∀ k, k < 32 → s.bin k ≠ none) → ∃ t,
                                  presents t .overflow none (some o) counted none ∧ t.requested .binFull = true
                                  ∧ t.order? b.1 = some { o with overflow := true }
                                  ∧ (∀ m, m ≠ b.1 → t.order? m = s.order? m) ∧ t.pack.bins = s.pack.bins)))))

/-- PACK CONFIRM: its refusals, and the finish, the spoil, the rejection or the return of the presented garment, with the
end of a cancellation that a finish or a rejection brings about (R17, R19, R37, R43, R147 to R151, R160; log entry 9). An
ACCEPT makes tests 4 to 6 afresh, and assigns, fills or frees a bin, or overflows, by the verdict it reaches (R145, R146,
R149). -/
def Obligations.PackConfirmCarriesOutTheVerdict : Prop :=
  ∀ (link : LinkNo) (payload : List Byte) (s : State) (seq : Nat), s.Accepts link .packConfirm payload →
    payloadTicket payload = some seq →
    let c := Instr.packConfirm link payload
    let refused (code : ReplyCode) := exec c s = .next (s.reply link 0x71 code [])
    (7 < (payloadByte payload 5).toNat → refused .range)
    ∧ ∀ action, packAction? (payloadByte payload 5) = some action →
        ((∀ r, s.pack.presented = some r → r.seq ≠ seq) → refused .notPresented)
        ∧ ∀ r, s.pack.presented = some r → r.seq = seq →
            let fits := (r.verdict = .inspect ∧ (action = .accept ∨ action = .spoil))
              ∨ (r.verdict ≠ .inspect ∧ action = r.verdict)
            (¬ fits → refused .wrongAction)
            ∧ (fits → (s.garment? seq = none ∨ (∃ g, s.garment? seq = some g ∧ g.disposition ≠ .active
                  ∧ action ≠ .spoil ∧ action ≠ .reject)) → ∃ t, exec c s = .next t
                ∧ s.Answered t link .packConfirm .changed []
                ∧ t = { s with pack := { s.pack with presented := none }, station := t.station })
            ∧ ∀ g, fits → s.garment? seq = some g →
                let gone (t : State) := t.garments = s.garments.filter (fun k => k.seq != seq)
                  ∧ t.pack.presented = none ∧ t.pack.exitList = s.pack.exitList.filter (fun k => k != seq)
                  ∧ t.pack.returnList = s.pack.returnList.filter (fun k => k != seq)
                  ∧ t.tunnel.belt = s.tunnel.belt.filter (fun k => k != seq)
                  ∧ (s.host.garmentCursor = some seq → t.host.garmentCursor = none)
                  ∧ (s.DrainEndsWith seq → t.mode = .setup ∧ t.requested .drained = true)
                  ∧ (¬ s.DrainEndsWith seq → t.mode = s.mode ∧ ∀ n, t.stop n = s.stop n)
                -- the line after a finish, ORDER_DONE where the order is complete by it, and the end of a cancellation
                -- where nothing more of a CANCELLING order is allocated (R17, R148; log entry 9 for the place of the test)
                let finished (t : State) (b : Nat × Nat) (o o' : Order) (l : Line) := t.order? b.1 = some o'
                  ∧ o'.lines = o.lines.set b.2 { l with allocated := l.allocated - 1, finished := l.finished + 1 }
                  ∧ (((o.state = .opened ∨ o.state = .held) ∧ o'.satisfied = true) →
                      o'.state = .complete ∧ t.requested .orderDone = true)
                  ∧ (o.state = .cancelling → o'.allocatedSum ≠ 0 → o'.state = .cancelling)
                  ∧ (o.state = .cancelling → o'.allocatedSum = 0 → o'.state = .cancelled ∧ o'.bin = none
                      ∧ t.requested .orderCancelled = true ∧ ∀ k, o.bin = some k → t.bin k = none)
                (g.disposition = .active → (action = .single ∨ action = .ship ∨ action = .pack ∨ action = .overflow) →
                  ∀ b o l, g.bound = some b → s.order? b.1 = some o → o.lines[b.2]? = some l → ∃ t o',
                    exec c s = .next t ∧ s.Answered t link .packConfirm .ok [] ∧ gone t ∧ finished t b o o' l
                    ∧ ((action = .single ∨ action = .overflow) → ¬ (o.state = .cancelling ∧ o'.allocatedSum = 0) →
                        o'.bin = o.bin ∧ ∀ k, t.bin k = s.bin k)
                    ∧ (action = .ship → o'.bin = none ∧ (∀ k, o.bin = some k → t.bin k = none)
                        ∧ (∀ k, o.bin ≠ some k → t.bin k = s.bin k)
                        ∧ (¬ (o.state = .cancelling ∧ o'.allocatedSum = 0) →
                          t.requested .binClear = s.requested .binClear))
                    ∧ (action = .pack → ∀ k, r.bin ≠ some k → o.bin ≠ some k → t.bin k = s.bin k)
                    ∧ (action = .pack → ∀ k h, r.bin = some k → k < 32 → s.bin k = some h →
                        (¬ (o.state = .cancelling ∧ o'.allocatedSum = 0) →
                          t.bin k = some { h with count := min 99 (h.count + 1) })
                        -- the shirt just packed lies in the bin that the end of the cancellation frees
                        ∧ (o.state = .cancelling → o'.allocatedSum = 0 → o.bin = some k → t.requested .binClear = true))
                    ∧ t.garmentTable.lastSpoil = s.garmentTable.lastSpoil)
                ∧ (g.disposition = .active → action = .accept → ∀ b o l, g.bound = some b → s.order? b.1 = some o →
                    o.lines[b.2]? = some l → ∃ t o', exec c s = .next t ∧ gone t ∧ finished t b o o' l
                      ∧ (let ends := o.state = .cancelling ∧ o'.allocatedSum = 0
                        let answers (v : Verdict) (bin : Option Nat) := s.Answered t link .packConfirm .ok
                          [v.byte, itemByte (o.finishedSum + 1), itemByte o.total, u8OrNone bin]
                        -- the bin of the order and the bins after the finish, and every other bin as before
                        let leaves (bin : Option Nat) (hold : Option BinHold) := (¬ ends → o'.bin = bin)
                          ∧ (∀ k, bin = some k → t.bin k = if ends then none else hold)
                          ∧ (∀ k, bin ≠ some k → t.bin k = s.bin k)
                          ∧ (¬ ends → t.requested .binClear = s.requested .binClear)
                        (o.total = 1 → answers .single o.bin ∧ leaves o.bin (o.bin.bind s.bin))
                        ∧ (o.total ≠ 1 → o.finishedSum + 1 = o.total → answers .ship o.bin ∧ o'.bin = none
                            ∧ (∀ k, o.bin = some k → t.bin k = none) ∧ (∀ k, o.bin ≠ some k → t.bin k = s.bin k)
                            ∧ (¬ ends → t.requested .binClear = s.requested .binClear))
                        ∧ (o.total ≠ 1 → o.finishedSum + 1 ≠ o.total →
                            -- the order overflowed before
                            (o.overflow = true → answers .overflow o.bin ∧ leaves o.bin (o.bin.bind s.bin)
                              ∧ t.requested .binFull = s.requested .binFull)
                            -- the order holds a bin: its count rises by 1, held at 99
                            ∧ (o.overflow = false → ∀ k, o.bin = some k → answers .pack (some k)
                              ∧ leaves (some k) ((s.bin k).map fun h => { h with count := min 99 (h.count + 1) })
                              ∧ (ends → (s.bin k).isSome = true → t.requested .binClear = true)
                              ∧ t.requested .binFull = s.requested .binFull)
                            -- the lowest-numbered free bin is assigned, and the shirt just packed lies in it
                            ∧ (o.overflow = false → o.bin = none → ∀ k, k < 32 → s.bin k = none →
                              (∀ m, m < k → s.bin m ≠ none) → answers .pack (some k)
                              ∧ leaves (some k) (some { order := o.number, count := 1 })
                              ∧ (ends → t.requested .binClear = true)
                              ∧ t.requested .binFull = s.requested .binFull)
                            -- no bin is free
                            ∧ (o.overflow = false → o.bin = none → (∀ k, k < 32 → s.bin k ≠ none) →
                              answers .overflow none ∧ leaves none none ∧ t.requested .binFull = true))
                        ∧ (o'.overflow = true ↔ o.overflow = true ∨ (o.total ≠ 1 ∧ o.finishedSum + 1 ≠ o.total
                            ∧ o.bin = none ∧ ∀ k, k < 32 → s.bin k ≠ none))))
                ∧ (action = .spoil → ∃ t, exec c s = .next t ∧ s.Answered t link .packConfirm .ok [] ∧ gone t
                    ∧ (g.disposition = .active → t.requested .spoil = true
                        ∧ t.garmentTable.lastSpoil.ticket = some seq ∧ t.garmentTable.lastSpoil.reason = some .host))
                ∧ (action = .reject → ∃ t, exec c s = .next t ∧ s.Answered t link .packConfirm .ok [] ∧ gone t
                    ∧ (r.cause = some .undercureLimit → g.disposition = .active → t.requested .spoil = true
                        ∧ t.garmentTable.lastSpoil.ticket = some seq
                        ∧ t.garmentTable.lastSpoil.reason = some .undercureLimit)
                    ∧ (r.cause = some .cancelled → g.disposition = .active → ∀ b o l, g.bound = some b →
                        s.order? b.1 = some o → o.lines[b.2]? = some l → ∃ o', t.order? b.1 = some o'
                          ∧ o'.lines = o.lines.set b.2 { l with allocated := l.allocated - 1 }
                          ∧ (o.state = .cancelling → o'.allocatedSum = 0 → o'.state = .cancelled ∧ o'.bin = none
                              ∧ t.requested .orderCancelled = true ∧ ∀ k, o.bin = some k → t.bin k = none))
                    ∧ ((r.cause = some .disposition ∨ r.cause = some .noOrder) → t.book = s.book)
                    ∧ (r.cause ≠ some .undercureLimit → t.garmentTable.lastSpoil = s.garmentTable.lastSpoil))
                ∧ (g.disposition = .active → action = .recure → ∃ t, exec c s = .next t
                    ∧ s.Answered t link .packConfirm .ok []
                    ∧ t.garment? seq = some { g with recures := g.recures + 1, place := .returning }
                    ∧ (∀ q, q ≠ seq → t.garment? q = s.garment? q)
                    ∧ t.tunnel = { s.tunnel with belt := s.tunnel.belt.filter (fun k => k != seq) }
                    ∧ t.pack = { s.pack with
                        presented := none, exitList := s.pack.exitList.filter (fun k => k != seq)
                        returnList := s.pack.returnList ++ [seq] }
                    ∧ t = { s with
                        garmentTable := { s.garmentTable with garments := t.garments }, tunnel := t.tunnel
                        pack := t.pack, station := t.station })

/-! ## Readouts and cursors -/

/-- What the readouts return, field by field (R39, R96, R104, R137, R143, R172 to R176, R179, R183); they change nothing but
the answer. Log entry 13 for the coding of READ ORDER's order total and sums, binary. -/
def Obligations.ReadoutsReturnTheRecords : Prop :=
  ∀ s : State,
    let reads (c : Instr) (bytesIn len : Nat) (fields : List Byte → Prop) :=
      ∃ r, exec c s = .next (s.answer bytesIn .ok r) ∧ r.length = len ∧ fields r
    let P := s.carousel.platenCount
    let listed (list : List Nat) (position : Byte) (g : Garment) :=
      ∃ seq, list[position.toNat]? = some seq ∧ s.garment? seq = some g
    reads .readIdent 1 4 (fun r => r = [0x52, 0x03, 0x16, 0x01])
    ∧ reads .readLastSpoil 1 14 (fun r =>
        r.take 5 = ticketBytes s.garmentTable.lastSpoil.ticket
        ∧ (r.drop 5).take 5 = orderNumberBytes s.garmentTable.lastSpoil.order
        ∧ r.drop 10 = [u8OrNone s.garmentTable.lastSpoil.line, u8OrNone (s.garmentTable.lastSpoil.reason.map (·.code))]
          ++ u16 s.garmentTable.lastSpoil.count)
    ∧ reads .readState 1 35 (fun r =>
        r[0]? = some s.mode.byte ∧ (r.drop 1).take 4 = u32 s.timebase
        ∧ (r.drop 5).take 5 = [u8 (64 - s.garments.length), u8 (96 - s.book.orders.length)]
          ++ u16 (384 - s.linesInUse) ++ [u8 s.book.admission.length]
        ∧ (r.drop 10).take 4 = generatorBytes s.garmentTable.generator
        ∧ (r.drop 14).take 5 = [flagByte s.indexPermit, flagByte s.attn, u8 s.tunnel.belt.length,
          u8 s.pack.exitList.length, u8 s.pack.returnList.length]
        ∧ (r.drop 19).take 5 = ticketBytes (s.pack.presented.map (·.seq))
        ∧ (r.drop 24).take 5 = orderNumberBytes s.host.orderCursor ∧ r[29]? = some (u8OrNone s.host.lineCursor)
        ∧ r.drop 30 = ticketBytes s.host.garmentCursor)
    ∧ reads .readCarousel 1 (10 + 8 * P) (fun r =>
        r.take 10 = [u8 P, u8 s.carousel.origin, flagByte s.indexPermit] ++ u24 s.carousel.dwell
          ++ u16 s.carousel.dwellLimit ++ [flagByte s.carousel.late, u8 s.carousel.lapLimit]
        ∧ (∀ n, n < P → (r.drop (10 + 2 * n)).take 2 = [u8 (s.platenAt n), (s.service n).byte])
        ∧ ∀ p, p < P → (r.drop (10 + 2 * P + 6 * p)).take 6 =
            flagByte (s.platen p).blocked :: ticketBytes (s.platen p).garment)
    ∧ reads .readStations 1 32 (fun r => ∀ l : LinkNo, (r.drop (4 * l.val)).take 4 =
        [(s.link l).kind.byte, u8 (s.link l).stop, flagByte (s.link l).bypassed, flagByte (s.link l).exempt])
    ∧ reads .readTunnel 1 (26 + 3 * s.tunnel.curve.length + 3 * s.tunnel.geometry.segments) (fun r =>
        r.take 6 = [flagByte s.tunnel.geometry.isSet, u8 s.tunnel.geometry.belt, u8 s.tunnel.geometry.entry,
          u8 s.tunnel.geometry.heat, u8 s.tunnel.geometry.exit, u8 s.tunnel.geometry.segments]
        ∧ (r.drop 6).take 4 = s.tunnel.geometry.lengths.toList.map u8
        ∧ (r.drop 10).take 2 = [u8 s.tunnel.geometry.gap, u8 s.tunnel.curve.length]
        ∧ (∀ i p, s.tunnel.curve[i]? = some p → (r.drop (12 + 3 * i)).take 3 = u16 p.temp ++ [u8 p.rate])
        ∧ (∀ k, k < s.tunnel.geometry.segments → (r.drop (12 + 3 * s.tunnel.curve.length + 3 * k)).take 3 =
          u16 (s.tunnel.temps[k]?.getD 0) ++ [u8 (s.tunnel.rates[k]?.getD 0)])
        ∧ r.drop (12 + 3 * s.tunnel.curve.length + 3 * s.tunnel.geometry.segments) =
          u24 (s.tunnel.stale.getD 0) ++ [flagByte s.tunnel.staleMarker, u8 s.tunnel.staleLimit]
          ++ u24 (s.tunnel.stall.getD 0) ++ [flagByte s.tunnel.stallMarker, u8 s.tunnel.stallLimit]
          ++ u16 s.tunnel.overtempLimit ++ [u8 s.tunnel.belt.length, u8OrNone s.backTail])
    ∧ reads .readBins 1 225 (fun r =>
        r[0]? = some (u8 (s.pack.bins.toList.countP (·.isNone)))
        ∧ ∀ b, b < 32 → (r.drop (1 + 7 * b)).take 7 = flagByte (s.bin b).isSome ::
            (orderNumberBytes ((s.bin b).map (·.order)) ++ [u8 (((s.bin b).map (·.count)).getD 0)]))
    ∧ (∀ (link : Byte) (l : LinkNo), l.val = link.toNat → reads (.readLink link) 2 8 (fun r =>
        r[0]? = some ((s.link l).lastRequest.getD 0xFF) ∧ r[1]? = some (((s.link l).lastReply.map (·.byte)).getD 0xFF)
        ∧ (r.drop 2).take 5 = ticketBytes ((s.link l).lastFault.map (·.1))
        ∧ r[7]? = some (((s.link l).lastFault.map (·.2)).getD 0xFF)))
    ∧ (∀ link : Byte, 7 < link.toNat → exec (.readLink link) s = .next (s.answer 2 .range []))
    ∧ (s.orderAtCursor = none → exec .readOrder s = .next (s.answer 1 .noCursor []))
    ∧ (∀ o, s.orderAtCursor = some o → reads .readOrder 1 13 (fun r =>
        r.take 5 = orderNumberBytes (some o.number)
        ∧ r.drop 5 = [u8 o.cls, o.state.byte, u8 o.lines.length, u8 o.total, u8 o.allocatedSum, u8 o.finishedSum,
          u8OrNone o.bin, flagByte o.overflow]))
    ∧ (s.garmentAtCursor = none → exec .readGarment s = .next (s.answer 1 .noCursor []))
    ∧ (∀ g, s.garmentAtCursor = some g → reads .readGarment 1 48 (fun r =>
        r.take 5 = ticketBytes (some g.seq) ∧ (r.drop 5).take 3 = [u8 g.key.style, u8 g.key.colour, u8 g.key.size]
        ∧ (r.drop 8).take 5 = orderNumberBytes (g.bound.map (·.1))
        ∧ (r.drop 13).take 10 = [u8OrNone (g.bound.map (·.2)), g.place.byte, u8OrNone g.place.platen?,
          g.disposition.byte, g.required.byte, g.done.byte, u8 g.laps, u8 g.recures, g.inspect.byte,
          u8OrNone (g.disposition.reason?.map (·.code))]
        ∧ (r.drop 23).take 6 = [u8 g.figures.rows, u8 g.figures.cols, g.figures.orient.byte, u8 g.figures.profile,
          u8 g.figures.x, u8 g.figures.y]
        ∧ (r.drop 29).take 9 = u24 g.figures.wsum ++ u24 g.figures.usum ++ u24 g.figures.dsum
        ∧ (r.drop 38).take 6 = u16 g.figures.capped ++ [u8 g.figures.passes] ++ u16 g.figures.cureDemand
          ++ [flagByte g.claim.isNone]
        ∧ r.drop 44 = u16 g.cure ++ [u8OrNone g.place.tail?, u8 g.length]))
    ∧ (∀ position : Byte, 63 < position.toNat → exec (.readBeltList position) s = .next (s.answer 2 .range [])
        ∧ exec (.readExitList position) s = .next (s.answer 2 .range [])
        ∧ exec (.readReturnList position) s = .next (s.answer 2 .range []))
    ∧ ∀ position : Byte, position.toNat ≤ 63 →
        (s.tunnel.belt.length ≤ position.toNat →
          exec (.readBeltList position) s = .next (s.answer 2 .ok [u8 s.tunnel.belt.length]))
        ∧ (s.pack.exitList.length ≤ position.toNat →
          exec (.readExitList position) s = .next (s.answer 2 .ok [u8 s.pack.exitList.length]))
        ∧ (s.pack.returnList.length ≤ position.toNat →
          exec (.readReturnList position) s = .next (s.answer 2 .ok [u8 s.pack.returnList.length]))
        ∧ (∀ g, listed s.tunnel.belt position g → reads (.readBeltList position) 2 14 (fun r =>
            r = u8 s.tunnel.belt.length :: (ticketBytes (some g.seq) ++ [g.disposition.byte, u8 g.length,
              u8OrNone g.place.tail?] ++ u16 g.cure ++ u16 g.figures.cureDemand ++ [g.inspect.byte])))
        ∧ (∀ g, listed s.pack.exitList position g → reads (.readExitList position) 2 10 (fun r =>
            r = u8 s.pack.exitList.length :: (ticketBytes (some g.seq) ++ [g.disposition.byte] ++ u16 g.cure
              ++ [u8 g.recures])))
        ∧ ∀ g, listed s.pack.returnList position g → reads (.readReturnList position) 2 11 (fun r =>
            r = u8 s.pack.returnList.length :: (ticketBytes (some g.seq) ++ [g.disposition.byte, u8 g.length]
              ++ u16 g.cure ++ [u8 g.recures]))

/-- The seeks and READ LINE: where each finds its record, the cursors and the answer, and the ticket test (R28, R29, R171 to
R173). -/
def Obligations.CursorsFollowTheSeeks : Prop :=
  ∀ s : State,
    let moved (order line : Option Nat) : State :=
      { s with host := { s.host with orderCursor := order, lineCursor := line } }
    let garmentAt (seq : Option Nat) : State := { s with host := { s.host with garmentCursor := seq } }
    -- SEEK ORDER: ten decimal digits, in the book or not
    (∀ n, n < 10 ^ 10 → ∃ number : Bcd5, (∀ i, i < 10 → number.toNat / 16 ^ i % 16 = n / 10 ^ i % 10)
      ∧ (s.order? n = none → exec (.seekOrder number) s = .next (s.answer 6 .notFound []))
      ∧ ∀ o, s.order? n = some o → exec (.seekOrder number) s =
          .next ((moved (some n) (if o.lines = [] then none else some 0)).answer 6 .ok []))
    ∧ (∀ number : Bcd5, (∃ i, i < 10 ∧ 9 < number.toNat / 16 ^ i % 16) →
        exec (.seekOrder number) s = .next (s.answer 6 .range []))
    -- SEEK NEXT ORDER: the part of the admission list behind the order cursor
    ∧ (∀ filter : Byte, 5 < filter.toNat → exec (.seekNextOrder filter) s = .next (s.answer 2 .range []))
    ∧ (∀ (filter : Byte) (walk : List Nat), filter.toNat ≤ 5 →
        ((s.host.orderCursor = none ∧ walk = s.book.admission)
          ∨ (∃ n, s.host.orderCursor = some n ∧ n ∉ s.book.admission ∧ walk = s.book.admission)
          ∨ (∃ n before, s.host.orderCursor = some n ∧ n ∉ before ∧ s.book.admission = before ++ n :: walk)) →
        let passes (o : Order) := filter = 0 ∨ o.state.byte = filter
        ((∀ n ∈ walk, ∀ o, s.order? n = some o → ¬ passes o) →
          exec (.seekNextOrder filter) s = .next (s.answer 2 .notFound []))
        ∧ ∀ skipped n rest o, walk = skipped ++ n :: rest → s.order? n = some o → passes o →
            (∀ k ∈ skipped, ∀ q, s.order? k = some q → ¬ passes q) →
            exec (.seekNextOrder filter) s = .next ((moved (some n) (some 0)).answer 2 .ok (orderNumberBytes (some n))))
    -- SEEK LINE and READ LINE
    ∧ (∀ index : Byte, (s.orderAtCursor = none → exec (.seekLine index) s = .next (s.answer 2 .noCursor []))
        ∧ ∀ o, s.orderAtCursor = some o →
          (o.lines.length ≤ index.toNat → exec (.seekLine index) s = .next (s.answer 2 .range []))
          ∧ (index.toNat < o.lines.length → exec (.seekLine index) s =
              .next ((moved s.host.orderCursor (some index.toNat)).answer 2 .ok [])))
    ∧ ((s.orderAtCursor = none ∨ s.host.lineCursor = none) → exec .readLine s = .next (s.answer 1 .noCursor []))
    ∧ (∀ o i l, s.orderAtCursor = some o → s.host.lineCursor = some i → o.lines[i]? = some l → ∃ r,
        exec .readLine s =
          .next ((moved s.host.orderCursor (if i + 1 = o.lines.length then none else some (i + 1))).answer 1 .ok r)
        ∧ r.length = 15 ∧ r.take 5 = [u8 i, u8 l.key.style, u8 l.key.colour, u8 l.key.size, u8 l.art.profile]
        ∧ (r.drop 5).take 5 = [l.art.orient.byte, l.art.mask.setWidth 8, BitVec.ofInt 8 l.art.choke, u8 l.art.x,
          u8 l.art.y]
        ∧ r.drop 10 = [u8 l.ordered, u8 l.allocated, u8 l.finished, u8 l.spoiled,
          u8 (l.ordered - l.finished - l.allocated)])
    -- SEEK GARMENT: nine digits, of which the last is the check digit of the first eight; the tenth half-byte, sent first,
    -- is not read (R178)
    ∧ (∀ ticket : Bcd5, (∃ i, i < 9 ∧ 9 < ticket.toNat / 16 ^ i % 16) →
        exec (.seekGarment ticket) s = .next (s.answer 6 .range []))
    ∧ (∀ seq d top, seq < 10 ^ 8 → d ≤ 9 → top < 16 → ∃ ticket : Bcd5,
        (∀ i, i < 10 → ticket.toNat / 16 ^ i % 16 = if i < 9 then (seq * 10 + d) / 10 ^ i % 10 else top)
        ∧ let sum := ((List.range 8).map fun i => seq / 10 ^ i % 10 * (if i % 2 = 0 then 3 else 1)).sum
          (d ≠ (10 - sum % 10) % 10 → exec (.seekGarment ticket) s = .next (s.answer 6 .range []))
          ∧ (d = (10 - sum % 10) % 10 → s.garment? seq = none →
              exec (.seekGarment ticket) s = .next (s.answer 6 .notFound []))
          ∧ (d = (10 - sum % 10) % 10 → s.garment? seq ≠ none →
              exec (.seekGarment ticket) s = .next ((garmentAt (some seq)).answer 6 .ok [])))
    ∧ (∀ platen : Byte,
        (s.carousel.platenCount ≤ platen.toNat → exec (.seekGarmentAtPlaten platen) s = .next (s.answer 2 .range []))
        ∧ (platen.toNat < s.carousel.platenCount →
            ((s.platen platen.toNat).garment = none →
              exec (.seekGarmentAtPlaten platen) s = .next (s.answer 2 .notFound []))
            ∧ ∀ seq, (s.platen platen.toNat).garment = some seq →
                exec (.seekGarmentAtPlaten platen) s = .next ((garmentAt (some seq)).answer 2 .ok [])))
    ∧ (s.garmentAtCursor = none → exec .seekOrderOfGarment s = .next (s.answer 1 .noCursor []))
    ∧ ∀ g, s.garmentAtCursor = some g →
        (g.bound = none → exec .seekOrderOfGarment s = .next (s.answer 1 .notFound []))
        ∧ ∀ n i, g.bound = some (n, i) →
            exec .seekOrderOfGarment s = .next ((moved (some n) (some i)).answer 1 .ok [])
end

