-- ==== Sys2Proof/Laws/State.lean ====
section
/-! SUPPORT. What each update of the state leaves in each field: one lemma per field per update, all true by rfl, so that no
proof unfolds a record update. -/

namespace Sys2Proof.Machine.State

variable (s : State)

/-! ## The updates of one block -/

@[simp] theorem onBook_book (f) : (s.onBook f).book = f s.book := rfl
@[simp] theorem onBook_mode (f) : (s.onBook f).mode = s.mode := rfl
@[simp] theorem onBook_timebase (f) : (s.onBook f).timebase = s.timebase := rfl
@[simp] theorem onBook_garmentTable (f) : (s.onBook f).garmentTable = s.garmentTable := rfl
@[simp] theorem onBook_art (f) : (s.onBook f).art = s.art := rfl
@[simp] theorem onBook_recipes (f) : (s.onBook f).recipes = s.recipes := rfl
@[simp] theorem onBook_sheet (f) : (s.onBook f).sheet = s.sheet := rfl
@[simp] theorem onBook_carousel (f) : (s.onBook f).carousel = s.carousel := rfl
@[simp] theorem onBook_station (f) : (s.onBook f).station = s.station := rfl
@[simp] theorem onBook_tunnel (f) : (s.onBook f).tunnel = s.tunnel := rfl
@[simp] theorem onBook_pack (f) : (s.onBook f).pack = s.pack := rfl
@[simp] theorem onBook_attention (f) : (s.onBook f).attention = s.attention := rfl
@[simp] theorem onBook_host (f) : (s.onBook f).host = s.host := rfl
@[simp] theorem onBook_choices (f) : (s.onBook f).choices = s.choices := rfl
@[simp] theorem onBook_pending (f) : (s.onBook f).pending = s.pending := rfl

@[simp] theorem onTable_garmentTable (f) : (s.onTable f).garmentTable = f s.garmentTable := rfl
@[simp] theorem onTable_mode (f) : (s.onTable f).mode = s.mode := rfl
@[simp] theorem onTable_timebase (f) : (s.onTable f).timebase = s.timebase := rfl
@[simp] theorem onTable_book (f) : (s.onTable f).book = s.book := rfl
@[simp] theorem onTable_art (f) : (s.onTable f).art = s.art := rfl
@[simp] theorem onTable_recipes (f) : (s.onTable f).recipes = s.recipes := rfl
@[simp] theorem onTable_sheet (f) : (s.onTable f).sheet = s.sheet := rfl
@[simp] theorem onTable_carousel (f) : (s.onTable f).carousel = s.carousel := rfl
@[simp] theorem onTable_station (f) : (s.onTable f).station = s.station := rfl
@[simp] theorem onTable_tunnel (f) : (s.onTable f).tunnel = s.tunnel := rfl
@[simp] theorem onTable_pack (f) : (s.onTable f).pack = s.pack := rfl
@[simp] theorem onTable_attention (f) : (s.onTable f).attention = s.attention := rfl
@[simp] theorem onTable_host (f) : (s.onTable f).host = s.host := rfl
@[simp] theorem onTable_choices (f) : (s.onTable f).choices = s.choices := rfl
@[simp] theorem onTable_pending (f) : (s.onTable f).pending = s.pending := rfl

@[simp] theorem onArt_art (f) : (s.onArt f).art = f s.art := rfl
@[simp] theorem onArt_mode (f) : (s.onArt f).mode = s.mode := rfl
@[simp] theorem onArt_timebase (f) : (s.onArt f).timebase = s.timebase := rfl
@[simp] theorem onArt_book (f) : (s.onArt f).book = s.book := rfl
@[simp] theorem onArt_garmentTable (f) : (s.onArt f).garmentTable = s.garmentTable := rfl
@[simp] theorem onArt_recipes (f) : (s.onArt f).recipes = s.recipes := rfl
@[simp] theorem onArt_sheet (f) : (s.onArt f).sheet = s.sheet := rfl
@[simp] theorem onArt_carousel (f) : (s.onArt f).carousel = s.carousel := rfl
@[simp] theorem onArt_station (f) : (s.onArt f).station = s.station := rfl
@[simp] theorem onArt_tunnel (f) : (s.onArt f).tunnel = s.tunnel := rfl
@[simp] theorem onArt_pack (f) : (s.onArt f).pack = s.pack := rfl
@[simp] theorem onArt_attention (f) : (s.onArt f).attention = s.attention := rfl
@[simp] theorem onArt_host (f) : (s.onArt f).host = s.host := rfl
@[simp] theorem onArt_choices (f) : (s.onArt f).choices = s.choices := rfl
@[simp] theorem onArt_pending (f) : (s.onArt f).pending = s.pending := rfl

@[simp] theorem onRecipes_recipes (f) : (s.onRecipes f).recipes = f s.recipes := rfl
@[simp] theorem onRecipes_mode (f) : (s.onRecipes f).mode = s.mode := rfl
@[simp] theorem onRecipes_timebase (f) : (s.onRecipes f).timebase = s.timebase := rfl
@[simp] theorem onRecipes_book (f) : (s.onRecipes f).book = s.book := rfl
@[simp] theorem onRecipes_garmentTable (f) : (s.onRecipes f).garmentTable = s.garmentTable := rfl
@[simp] theorem onRecipes_art (f) : (s.onRecipes f).art = s.art := rfl
@[simp] theorem onRecipes_sheet (f) : (s.onRecipes f).sheet = s.sheet := rfl
@[simp] theorem onRecipes_carousel (f) : (s.onRecipes f).carousel = s.carousel := rfl
@[simp] theorem onRecipes_station (f) : (s.onRecipes f).station = s.station := rfl
@[simp] theorem onRecipes_tunnel (f) : (s.onRecipes f).tunnel = s.tunnel := rfl
@[simp] theorem onRecipes_pack (f) : (s.onRecipes f).pack = s.pack := rfl
@[simp] theorem onRecipes_attention (f) : (s.onRecipes f).attention = s.attention := rfl
@[simp] theorem onRecipes_host (f) : (s.onRecipes f).host = s.host := rfl
@[simp] theorem onRecipes_choices (f) : (s.onRecipes f).choices = s.choices := rfl
@[simp] theorem onRecipes_pending (f) : (s.onRecipes f).pending = s.pending := rfl

@[simp] theorem onSheet_sheet (f) : (s.onSheet f).sheet = f s.sheet := rfl
@[simp] theorem onSheet_mode (f) : (s.onSheet f).mode = s.mode := rfl
@[simp] theorem onSheet_timebase (f) : (s.onSheet f).timebase = s.timebase := rfl
@[simp] theorem onSheet_book (f) : (s.onSheet f).book = s.book := rfl
@[simp] theorem onSheet_garmentTable (f) : (s.onSheet f).garmentTable = s.garmentTable := rfl
@[simp] theorem onSheet_art (f) : (s.onSheet f).art = s.art := rfl
@[simp] theorem onSheet_recipes (f) : (s.onSheet f).recipes = s.recipes := rfl
@[simp] theorem onSheet_carousel (f) : (s.onSheet f).carousel = s.carousel := rfl
@[simp] theorem onSheet_station (f) : (s.onSheet f).station = s.station := rfl
@[simp] theorem onSheet_tunnel (f) : (s.onSheet f).tunnel = s.tunnel := rfl
@[simp] theorem onSheet_pack (f) : (s.onSheet f).pack = s.pack := rfl
@[simp] theorem onSheet_attention (f) : (s.onSheet f).attention = s.attention := rfl
@[simp] theorem onSheet_host (f) : (s.onSheet f).host = s.host := rfl
@[simp] theorem onSheet_choices (f) : (s.onSheet f).choices = s.choices := rfl
@[simp] theorem onSheet_pending (f) : (s.onSheet f).pending = s.pending := rfl

@[simp] theorem onCarousel_carousel (f) : (s.onCarousel f).carousel = f s.carousel := rfl
@[simp] theorem onCarousel_mode (f) : (s.onCarousel f).mode = s.mode := rfl
@[simp] theorem onCarousel_timebase (f) : (s.onCarousel f).timebase = s.timebase := rfl
@[simp] theorem onCarousel_book (f) : (s.onCarousel f).book = s.book := rfl
@[simp] theorem onCarousel_garmentTable (f) : (s.onCarousel f).garmentTable = s.garmentTable := rfl
@[simp] theorem onCarousel_art (f) : (s.onCarousel f).art = s.art := rfl
@[simp] theorem onCarousel_recipes (f) : (s.onCarousel f).recipes = s.recipes := rfl
@[simp] theorem onCarousel_sheet (f) : (s.onCarousel f).sheet = s.sheet := rfl
@[simp] theorem onCarousel_station (f) : (s.onCarousel f).station = s.station := rfl
@[simp] theorem onCarousel_tunnel (f) : (s.onCarousel f).tunnel = s.tunnel := rfl
@[simp] theorem onCarousel_pack (f) : (s.onCarousel f).pack = s.pack := rfl
@[simp] theorem onCarousel_attention (f) : (s.onCarousel f).attention = s.attention := rfl
@[simp] theorem onCarousel_host (f) : (s.onCarousel f).host = s.host := rfl
@[simp] theorem onCarousel_choices (f) : (s.onCarousel f).choices = s.choices := rfl
@[simp] theorem onCarousel_pending (f) : (s.onCarousel f).pending = s.pending := rfl

@[simp] theorem onStation_station (f) : (s.onStation f).station = f s.station := rfl
@[simp] theorem onStation_mode (f) : (s.onStation f).mode = s.mode := rfl
@[simp] theorem onStation_timebase (f) : (s.onStation f).timebase = s.timebase := rfl
@[simp] theorem onStation_book (f) : (s.onStation f).book = s.book := rfl
@[simp] theorem onStation_garmentTable (f) : (s.onStation f).garmentTable = s.garmentTable := rfl
@[simp] theorem onStation_art (f) : (s.onStation f).art = s.art := rfl
@[simp] theorem onStation_recipes (f) : (s.onStation f).recipes = s.recipes := rfl
@[simp] theorem onStation_sheet (f) : (s.onStation f).sheet = s.sheet := rfl
@[simp] theorem onStation_carousel (f) : (s.onStation f).carousel = s.carousel := rfl
@[simp] theorem onStation_tunnel (f) : (s.onStation f).tunnel = s.tunnel := rfl
@[simp] theorem onStation_pack (f) : (s.onStation f).pack = s.pack := rfl
@[simp] theorem onStation_attention (f) : (s.onStation f).attention = s.attention := rfl
@[simp] theorem onStation_host (f) : (s.onStation f).host = s.host := rfl
@[simp] theorem onStation_choices (f) : (s.onStation f).choices = s.choices := rfl
@[simp] theorem onStation_pending (f) : (s.onStation f).pending = s.pending := rfl

@[simp] theorem onTunnel_tunnel (f) : (s.onTunnel f).tunnel = f s.tunnel := rfl
@[simp] theorem onTunnel_mode (f) : (s.onTunnel f).mode = s.mode := rfl
@[simp] theorem onTunnel_timebase (f) : (s.onTunnel f).timebase = s.timebase := rfl
@[simp] theorem onTunnel_book (f) : (s.onTunnel f).book = s.book := rfl
@[simp] theorem onTunnel_garmentTable (f) : (s.onTunnel f).garmentTable = s.garmentTable := rfl
@[simp] theorem onTunnel_art (f) : (s.onTunnel f).art = s.art := rfl
@[simp] theorem onTunnel_recipes (f) : (s.onTunnel f).recipes = s.recipes := rfl
@[simp] theorem onTunnel_sheet (f) : (s.onTunnel f).sheet = s.sheet := rfl
@[simp] theorem onTunnel_carousel (f) : (s.onTunnel f).carousel = s.carousel := rfl
@[simp] theorem onTunnel_station (f) : (s.onTunnel f).station = s.station := rfl
@[simp] theorem onTunnel_pack (f) : (s.onTunnel f).pack = s.pack := rfl
@[simp] theorem onTunnel_attention (f) : (s.onTunnel f).attention = s.attention := rfl
@[simp] theorem onTunnel_host (f) : (s.onTunnel f).host = s.host := rfl
@[simp] theorem onTunnel_choices (f) : (s.onTunnel f).choices = s.choices := rfl
@[simp] theorem onTunnel_pending (f) : (s.onTunnel f).pending = s.pending := rfl

@[simp] theorem onPack_pack (f) : (s.onPack f).pack = f s.pack := rfl
@[simp] theorem onPack_mode (f) : (s.onPack f).mode = s.mode := rfl
@[simp] theorem onPack_timebase (f) : (s.onPack f).timebase = s.timebase := rfl
@[simp] theorem onPack_book (f) : (s.onPack f).book = s.book := rfl
@[simp] theorem onPack_garmentTable (f) : (s.onPack f).garmentTable = s.garmentTable := rfl
@[simp] theorem onPack_art (f) : (s.onPack f).art = s.art := rfl
@[simp] theorem onPack_recipes (f) : (s.onPack f).recipes = s.recipes := rfl
@[simp] theorem onPack_sheet (f) : (s.onPack f).sheet = s.sheet := rfl
@[simp] theorem onPack_carousel (f) : (s.onPack f).carousel = s.carousel := rfl
@[simp] theorem onPack_station (f) : (s.onPack f).station = s.station := rfl
@[simp] theorem onPack_tunnel (f) : (s.onPack f).tunnel = s.tunnel := rfl
@[simp] theorem onPack_attention (f) : (s.onPack f).attention = s.attention := rfl
@[simp] theorem onPack_host (f) : (s.onPack f).host = s.host := rfl
@[simp] theorem onPack_choices (f) : (s.onPack f).choices = s.choices := rfl
@[simp] theorem onPack_pending (f) : (s.onPack f).pending = s.pending := rfl

@[simp] theorem onAttention_attention (f) : (s.onAttention f).attention = f s.attention := rfl
@[simp] theorem onAttention_mode (f) : (s.onAttention f).mode = s.mode := rfl
@[simp] theorem onAttention_timebase (f) : (s.onAttention f).timebase = s.timebase := rfl
@[simp] theorem onAttention_book (f) : (s.onAttention f).book = s.book := rfl
@[simp] theorem onAttention_garmentTable (f) : (s.onAttention f).garmentTable = s.garmentTable := rfl
@[simp] theorem onAttention_art (f) : (s.onAttention f).art = s.art := rfl
@[simp] theorem onAttention_recipes (f) : (s.onAttention f).recipes = s.recipes := rfl
@[simp] theorem onAttention_sheet (f) : (s.onAttention f).sheet = s.sheet := rfl
@[simp] theorem onAttention_carousel (f) : (s.onAttention f).carousel = s.carousel := rfl
@[simp] theorem onAttention_station (f) : (s.onAttention f).station = s.station := rfl
@[simp] theorem onAttention_tunnel (f) : (s.onAttention f).tunnel = s.tunnel := rfl
@[simp] theorem onAttention_pack (f) : (s.onAttention f).pack = s.pack := rfl
@[simp] theorem onAttention_host (f) : (s.onAttention f).host = s.host := rfl
@[simp] theorem onAttention_choices (f) : (s.onAttention f).choices = s.choices := rfl
@[simp] theorem onAttention_pending (f) : (s.onAttention f).pending = s.pending := rfl

@[simp] theorem onHost_host (f) : (s.onHost f).host = f s.host := rfl
@[simp] theorem onHost_mode (f) : (s.onHost f).mode = s.mode := rfl
@[simp] theorem onHost_timebase (f) : (s.onHost f).timebase = s.timebase := rfl
@[simp] theorem onHost_book (f) : (s.onHost f).book = s.book := rfl
@[simp] theorem onHost_garmentTable (f) : (s.onHost f).garmentTable = s.garmentTable := rfl
@[simp] theorem onHost_art (f) : (s.onHost f).art = s.art := rfl
@[simp] theorem onHost_recipes (f) : (s.onHost f).recipes = s.recipes := rfl
@[simp] theorem onHost_sheet (f) : (s.onHost f).sheet = s.sheet := rfl
@[simp] theorem onHost_carousel (f) : (s.onHost f).carousel = s.carousel := rfl
@[simp] theorem onHost_station (f) : (s.onHost f).station = s.station := rfl
@[simp] theorem onHost_tunnel (f) : (s.onHost f).tunnel = s.tunnel := rfl
@[simp] theorem onHost_pack (f) : (s.onHost f).pack = s.pack := rfl
@[simp] theorem onHost_attention (f) : (s.onHost f).attention = s.attention := rfl
@[simp] theorem onHost_choices (f) : (s.onHost f).choices = s.choices := rfl
@[simp] theorem onHost_pending (f) : (s.onHost f).pending = s.pending := rfl

@[simp] theorem setMode_mode (m) : (s.setMode m).mode = m := rfl
@[simp] theorem setMode_timebase (m) : (s.setMode m).timebase = s.timebase := rfl
@[simp] theorem setMode_book (m) : (s.setMode m).book = s.book := rfl
@[simp] theorem setMode_garmentTable (m) : (s.setMode m).garmentTable = s.garmentTable := rfl
@[simp] theorem setMode_art (m) : (s.setMode m).art = s.art := rfl
@[simp] theorem setMode_recipes (m) : (s.setMode m).recipes = s.recipes := rfl
@[simp] theorem setMode_sheet (m) : (s.setMode m).sheet = s.sheet := rfl
@[simp] theorem setMode_carousel (m) : (s.setMode m).carousel = s.carousel := rfl
@[simp] theorem setMode_station (m) : (s.setMode m).station = s.station := rfl
@[simp] theorem setMode_tunnel (m) : (s.setMode m).tunnel = s.tunnel := rfl
@[simp] theorem setMode_pack (m) : (s.setMode m).pack = s.pack := rfl
@[simp] theorem setMode_attention (m) : (s.setMode m).attention = s.attention := rfl
@[simp] theorem setMode_host (m) : (s.setMode m).host = s.host := rfl
@[simp] theorem setMode_choices (m) : (s.setMode m).choices = s.choices := rfl
@[simp] theorem setMode_pending (m) : (s.setMode m).pending = s.pending := rfl

/-! ## The updates of one record: the blocks they leave -/

@[simp] theorem modGarment_mode (q) (f) : (State.modGarment q f s).mode = s.mode := rfl
@[simp] theorem modGarment_timebase (q) (f) : (State.modGarment q f s).timebase = s.timebase := rfl
@[simp] theorem modGarment_book (q) (f) : (State.modGarment q f s).book = s.book := rfl
@[simp] theorem modGarment_art (q) (f) : (State.modGarment q f s).art = s.art := rfl
@[simp] theorem modGarment_recipes (q) (f) : (State.modGarment q f s).recipes = s.recipes := rfl
@[simp] theorem modGarment_sheet (q) (f) : (State.modGarment q f s).sheet = s.sheet := rfl
@[simp] theorem modGarment_carousel (q) (f) : (State.modGarment q f s).carousel = s.carousel := rfl
@[simp] theorem modGarment_station (q) (f) : (State.modGarment q f s).station = s.station := rfl
@[simp] theorem modGarment_tunnel (q) (f) : (State.modGarment q f s).tunnel = s.tunnel := rfl
@[simp] theorem modGarment_pack (q) (f) : (State.modGarment q f s).pack = s.pack := rfl
@[simp] theorem modGarment_attention (q) (f) : (State.modGarment q f s).attention = s.attention := rfl
@[simp] theorem modGarment_host (q) (f) : (State.modGarment q f s).host = s.host := rfl
@[simp] theorem modGarment_choices (q) (f) : (State.modGarment q f s).choices = s.choices := rfl
@[simp] theorem modGarment_pending (q) (f) : (State.modGarment q f s).pending = s.pending := rfl

@[simp] theorem addGarment_mode (g) : (State.addGarment g s).mode = s.mode := rfl
@[simp] theorem addGarment_timebase (g) : (State.addGarment g s).timebase = s.timebase := rfl
@[simp] theorem addGarment_book (g) : (State.addGarment g s).book = s.book := rfl
@[simp] theorem addGarment_art (g) : (State.addGarment g s).art = s.art := rfl
@[simp] theorem addGarment_recipes (g) : (State.addGarment g s).recipes = s.recipes := rfl
@[simp] theorem addGarment_sheet (g) : (State.addGarment g s).sheet = s.sheet := rfl
@[simp] theorem addGarment_carousel (g) : (State.addGarment g s).carousel = s.carousel := rfl
@[simp] theorem addGarment_station (g) : (State.addGarment g s).station = s.station := rfl
@[simp] theorem addGarment_tunnel (g) : (State.addGarment g s).tunnel = s.tunnel := rfl
@[simp] theorem addGarment_pack (g) : (State.addGarment g s).pack = s.pack := rfl
@[simp] theorem addGarment_attention (g) : (State.addGarment g s).attention = s.attention := rfl
@[simp] theorem addGarment_host (g) : (State.addGarment g s).host = s.host := rfl
@[simp] theorem addGarment_choices (g) : (State.addGarment g s).choices = s.choices := rfl
@[simp] theorem addGarment_pending (g) : (State.addGarment g s).pending = s.pending := rfl

@[simp] theorem dropGarment_mode (q) : (State.dropGarment q s).mode = s.mode := rfl
@[simp] theorem dropGarment_timebase (q) : (State.dropGarment q s).timebase = s.timebase := rfl
@[simp] theorem dropGarment_book (q) : (State.dropGarment q s).book = s.book := rfl
@[simp] theorem dropGarment_art (q) : (State.dropGarment q s).art = s.art := rfl
@[simp] theorem dropGarment_recipes (q) : (State.dropGarment q s).recipes = s.recipes := rfl
@[simp] theorem dropGarment_sheet (q) : (State.dropGarment q s).sheet = s.sheet := rfl
@[simp] theorem dropGarment_carousel (q) : (State.dropGarment q s).carousel = s.carousel := rfl
@[simp] theorem dropGarment_station (q) : (State.dropGarment q s).station = s.station := rfl
@[simp] theorem dropGarment_tunnel (q) : (State.dropGarment q s).tunnel = s.tunnel := rfl
@[simp] theorem dropGarment_pack (q) : (State.dropGarment q s).pack = s.pack := rfl
@[simp] theorem dropGarment_attention (q) : (State.dropGarment q s).attention = s.attention := rfl
@[simp] theorem dropGarment_host (q) : (State.dropGarment q s).host = s.host := rfl
@[simp] theorem dropGarment_choices (q) : (State.dropGarment q s).choices = s.choices := rfl
@[simp] theorem dropGarment_pending (q) : (State.dropGarment q s).pending = s.pending := rfl

@[simp] theorem modOrder_mode (n) (f) : (State.modOrder n f s).mode = s.mode := rfl
@[simp] theorem modOrder_timebase (n) (f) : (State.modOrder n f s).timebase = s.timebase := rfl
@[simp] theorem modOrder_garmentTable (n) (f) : (State.modOrder n f s).garmentTable = s.garmentTable := rfl
@[simp] theorem modOrder_art (n) (f) : (State.modOrder n f s).art = s.art := rfl
@[simp] theorem modOrder_recipes (n) (f) : (State.modOrder n f s).recipes = s.recipes := rfl
@[simp] theorem modOrder_sheet (n) (f) : (State.modOrder n f s).sheet = s.sheet := rfl
@[simp] theorem modOrder_carousel (n) (f) : (State.modOrder n f s).carousel = s.carousel := rfl
@[simp] theorem modOrder_station (n) (f) : (State.modOrder n f s).station = s.station := rfl
@[simp] theorem modOrder_tunnel (n) (f) : (State.modOrder n f s).tunnel = s.tunnel := rfl
@[simp] theorem modOrder_pack (n) (f) : (State.modOrder n f s).pack = s.pack := rfl
@[simp] theorem modOrder_attention (n) (f) : (State.modOrder n f s).attention = s.attention := rfl
@[simp] theorem modOrder_host (n) (f) : (State.modOrder n f s).host = s.host := rfl
@[simp] theorem modOrder_choices (n) (f) : (State.modOrder n f s).choices = s.choices := rfl
@[simp] theorem modOrder_pending (n) (f) : (State.modOrder n f s).pending = s.pending := rfl

@[simp] theorem modLine_mode (b) (f) : (State.modLine b f s).mode = s.mode := rfl
@[simp] theorem modLine_timebase (b) (f) : (State.modLine b f s).timebase = s.timebase := rfl
@[simp] theorem modLine_garmentTable (b) (f) : (State.modLine b f s).garmentTable = s.garmentTable := rfl
@[simp] theorem modLine_art (b) (f) : (State.modLine b f s).art = s.art := rfl
@[simp] theorem modLine_recipes (b) (f) : (State.modLine b f s).recipes = s.recipes := rfl
@[simp] theorem modLine_sheet (b) (f) : (State.modLine b f s).sheet = s.sheet := rfl
@[simp] theorem modLine_carousel (b) (f) : (State.modLine b f s).carousel = s.carousel := rfl
@[simp] theorem modLine_station (b) (f) : (State.modLine b f s).station = s.station := rfl
@[simp] theorem modLine_tunnel (b) (f) : (State.modLine b f s).tunnel = s.tunnel := rfl
@[simp] theorem modLine_pack (b) (f) : (State.modLine b f s).pack = s.pack := rfl
@[simp] theorem modLine_attention (b) (f) : (State.modLine b f s).attention = s.attention := rfl
@[simp] theorem modLine_host (b) (f) : (State.modLine b f s).host = s.host := rfl
@[simp] theorem modLine_choices (b) (f) : (State.modLine b f s).choices = s.choices := rfl
@[simp] theorem modLine_pending (b) (f) : (State.modLine b f s).pending = s.pending := rfl

@[simp] theorem setOrderCursors_mode (o) (l) : (State.setOrderCursors o l s).mode = s.mode := rfl
@[simp] theorem setOrderCursors_timebase (o) (l) : (State.setOrderCursors o l s).timebase = s.timebase := rfl
@[simp] theorem setOrderCursors_book (o) (l) : (State.setOrderCursors o l s).book = s.book := rfl
@[simp] theorem setOrderCursors_garmentTable (o) (l) : (State.setOrderCursors o l s).garmentTable = s.garmentTable := rfl
@[simp] theorem setOrderCursors_art (o) (l) : (State.setOrderCursors o l s).art = s.art := rfl
@[simp] theorem setOrderCursors_recipes (o) (l) : (State.setOrderCursors o l s).recipes = s.recipes := rfl
@[simp] theorem setOrderCursors_sheet (o) (l) : (State.setOrderCursors o l s).sheet = s.sheet := rfl
@[simp] theorem setOrderCursors_carousel (o) (l) : (State.setOrderCursors o l s).carousel = s.carousel := rfl
@[simp] theorem setOrderCursors_station (o) (l) : (State.setOrderCursors o l s).station = s.station := rfl
@[simp] theorem setOrderCursors_tunnel (o) (l) : (State.setOrderCursors o l s).tunnel = s.tunnel := rfl
@[simp] theorem setOrderCursors_pack (o) (l) : (State.setOrderCursors o l s).pack = s.pack := rfl
@[simp] theorem setOrderCursors_attention (o) (l) : (State.setOrderCursors o l s).attention = s.attention := rfl
@[simp] theorem setOrderCursors_choices (o) (l) : (State.setOrderCursors o l s).choices = s.choices := rfl
@[simp] theorem setOrderCursors_pending (o) (l) : (State.setOrderCursors o l s).pending = s.pending := rfl

@[simp] theorem setLineCursor_mode (l) : (State.setLineCursor l s).mode = s.mode := rfl
@[simp] theorem setLineCursor_timebase (l) : (State.setLineCursor l s).timebase = s.timebase := rfl
@[simp] theorem setLineCursor_book (l) : (State.setLineCursor l s).book = s.book := rfl
@[simp] theorem setLineCursor_garmentTable (l) : (State.setLineCursor l s).garmentTable = s.garmentTable := rfl
@[simp] theorem setLineCursor_art (l) : (State.setLineCursor l s).art = s.art := rfl
@[simp] theorem setLineCursor_recipes (l) : (State.setLineCursor l s).recipes = s.recipes := rfl
@[simp] theorem setLineCursor_sheet (l) : (State.setLineCursor l s).sheet = s.sheet := rfl
@[simp] theorem setLineCursor_carousel (l) : (State.setLineCursor l s).carousel = s.carousel := rfl
@[simp] theorem setLineCursor_station (l) : (State.setLineCursor l s).station = s.station := rfl
@[simp] theorem setLineCursor_tunnel (l) : (State.setLineCursor l s).tunnel = s.tunnel := rfl
@[simp] theorem setLineCursor_pack (l) : (State.setLineCursor l s).pack = s.pack := rfl
@[simp] theorem setLineCursor_attention (l) : (State.setLineCursor l s).attention = s.attention := rfl
@[simp] theorem setLineCursor_choices (l) : (State.setLineCursor l s).choices = s.choices := rfl
@[simp] theorem setLineCursor_pending (l) : (State.setLineCursor l s).pending = s.pending := rfl

@[simp] theorem setGarmentCursor_mode (q) : (State.setGarmentCursor q s).mode = s.mode := rfl
@[simp] theorem setGarmentCursor_timebase (q) : (State.setGarmentCursor q s).timebase = s.timebase := rfl
@[simp] theorem setGarmentCursor_book (q) : (State.setGarmentCursor q s).book = s.book := rfl
@[simp] theorem setGarmentCursor_garmentTable (q) : (State.setGarmentCursor q s).garmentTable = s.garmentTable := rfl
@[simp] theorem setGarmentCursor_art (q) : (State.setGarmentCursor q s).art = s.art := rfl
@[simp] theorem setGarmentCursor_recipes (q) : (State.setGarmentCursor q s).recipes = s.recipes := rfl
@[simp] theorem setGarmentCursor_sheet (q) : (State.setGarmentCursor q s).sheet = s.sheet := rfl
@[simp] theorem setGarmentCursor_carousel (q) : (State.setGarmentCursor q s).carousel = s.carousel := rfl
@[simp] theorem setGarmentCursor_station (q) : (State.setGarmentCursor q s).station = s.station := rfl
@[simp] theorem setGarmentCursor_tunnel (q) : (State.setGarmentCursor q s).tunnel = s.tunnel := rfl
@[simp] theorem setGarmentCursor_pack (q) : (State.setGarmentCursor q s).pack = s.pack := rfl
@[simp] theorem setGarmentCursor_attention (q) : (State.setGarmentCursor q s).attention = s.attention := rfl
@[simp] theorem setGarmentCursor_choices (q) : (State.setGarmentCursor q s).choices = s.choices := rfl
@[simp] theorem setGarmentCursor_pending (q) : (State.setGarmentCursor q s).pending = s.pending := rfl

@[simp] theorem setSlot_mode (n) (p) : (State.setSlot n p s).mode = s.mode := rfl
@[simp] theorem setSlot_timebase (n) (p) : (State.setSlot n p s).timebase = s.timebase := rfl
@[simp] theorem setSlot_book (n) (p) : (State.setSlot n p s).book = s.book := rfl
@[simp] theorem setSlot_garmentTable (n) (p) : (State.setSlot n p s).garmentTable = s.garmentTable := rfl
@[simp] theorem setSlot_recipes (n) (p) : (State.setSlot n p s).recipes = s.recipes := rfl
@[simp] theorem setSlot_sheet (n) (p) : (State.setSlot n p s).sheet = s.sheet := rfl
@[simp] theorem setSlot_carousel (n) (p) : (State.setSlot n p s).carousel = s.carousel := rfl
@[simp] theorem setSlot_station (n) (p) : (State.setSlot n p s).station = s.station := rfl
@[simp] theorem setSlot_tunnel (n) (p) : (State.setSlot n p s).tunnel = s.tunnel := rfl
@[simp] theorem setSlot_pack (n) (p) : (State.setSlot n p s).pack = s.pack := rfl
@[simp] theorem setSlot_attention (n) (p) : (State.setSlot n p s).attention = s.attention := rfl
@[simp] theorem setSlot_host (n) (p) : (State.setSlot n p s).host = s.host := rfl
@[simp] theorem setSlot_choices (n) (p) : (State.setSlot n p s).choices = s.choices := rfl
@[simp] theorem setSlot_pending (n) (p) : (State.setSlot n p s).pending = s.pending := rfl

@[simp] theorem setBank_mode (b) (v) : (State.setBank b v s).mode = s.mode := rfl
@[simp] theorem setBank_timebase (b) (v) : (State.setBank b v s).timebase = s.timebase := rfl
@[simp] theorem setBank_book (b) (v) : (State.setBank b v s).book = s.book := rfl
@[simp] theorem setBank_garmentTable (b) (v) : (State.setBank b v s).garmentTable = s.garmentTable := rfl
@[simp] theorem setBank_art (b) (v) : (State.setBank b v s).art = s.art := rfl
@[simp] theorem setBank_sheet (b) (v) : (State.setBank b v s).sheet = s.sheet := rfl
@[simp] theorem setBank_carousel (b) (v) : (State.setBank b v s).carousel = s.carousel := rfl
@[simp] theorem setBank_station (b) (v) : (State.setBank b v s).station = s.station := rfl
@[simp] theorem setBank_tunnel (b) (v) : (State.setBank b v s).tunnel = s.tunnel := rfl
@[simp] theorem setBank_pack (b) (v) : (State.setBank b v s).pack = s.pack := rfl
@[simp] theorem setBank_attention (b) (v) : (State.setBank b v s).attention = s.attention := rfl
@[simp] theorem setBank_host (b) (v) : (State.setBank b v s).host = s.host := rfl
@[simp] theorem setBank_choices (b) (v) : (State.setBank b v s).choices = s.choices := rfl
@[simp] theorem setBank_pending (b) (v) : (State.setBank b v s).pending = s.pending := rfl

@[simp] theorem setPlatenGarment_mode (p) (q) : (State.setPlatenGarment p q s).mode = s.mode := rfl
@[simp] theorem setPlatenGarment_timebase (p) (q) : (State.setPlatenGarment p q s).timebase = s.timebase := rfl
@[simp] theorem setPlatenGarment_book (p) (q) : (State.setPlatenGarment p q s).book = s.book := rfl
@[simp] theorem setPlatenGarment_garmentTable (p) (q) : (State.setPlatenGarment p q s).garmentTable = s.garmentTable := rfl
@[simp] theorem setPlatenGarment_art (p) (q) : (State.setPlatenGarment p q s).art = s.art := rfl
@[simp] theorem setPlatenGarment_recipes (p) (q) : (State.setPlatenGarment p q s).recipes = s.recipes := rfl
@[simp] theorem setPlatenGarment_sheet (p) (q) : (State.setPlatenGarment p q s).sheet = s.sheet := rfl
@[simp] theorem setPlatenGarment_station (p) (q) : (State.setPlatenGarment p q s).station = s.station := rfl
@[simp] theorem setPlatenGarment_tunnel (p) (q) : (State.setPlatenGarment p q s).tunnel = s.tunnel := rfl
@[simp] theorem setPlatenGarment_pack (p) (q) : (State.setPlatenGarment p q s).pack = s.pack := rfl
@[simp] theorem setPlatenGarment_attention (p) (q) : (State.setPlatenGarment p q s).attention = s.attention := rfl
@[simp] theorem setPlatenGarment_host (p) (q) : (State.setPlatenGarment p q s).host = s.host := rfl
@[simp] theorem setPlatenGarment_choices (p) (q) : (State.setPlatenGarment p q s).choices = s.choices := rfl
@[simp] theorem setPlatenGarment_pending (p) (q) : (State.setPlatenGarment p q s).pending = s.pending := rfl

@[simp] theorem setPlatenBlocked_mode (p) (b) : (State.setPlatenBlocked p b s).mode = s.mode := rfl
@[simp] theorem setPlatenBlocked_timebase (p) (b) : (State.setPlatenBlocked p b s).timebase = s.timebase := rfl
@[simp] theorem setPlatenBlocked_book (p) (b) : (State.setPlatenBlocked p b s).book = s.book := rfl
@[simp] theorem setPlatenBlocked_garmentTable (p) (b) : (State.setPlatenBlocked p b s).garmentTable = s.garmentTable := rfl
@[simp] theorem setPlatenBlocked_art (p) (b) : (State.setPlatenBlocked p b s).art = s.art := rfl
@[simp] theorem setPlatenBlocked_recipes (p) (b) : (State.setPlatenBlocked p b s).recipes = s.recipes := rfl
@[simp] theorem setPlatenBlocked_sheet (p) (b) : (State.setPlatenBlocked p b s).sheet = s.sheet := rfl
@[simp] theorem setPlatenBlocked_station (p) (b) : (State.setPlatenBlocked p b s).station = s.station := rfl
@[simp] theorem setPlatenBlocked_tunnel (p) (b) : (State.setPlatenBlocked p b s).tunnel = s.tunnel := rfl
@[simp] theorem setPlatenBlocked_pack (p) (b) : (State.setPlatenBlocked p b s).pack = s.pack := rfl
@[simp] theorem setPlatenBlocked_attention (p) (b) : (State.setPlatenBlocked p b s).attention = s.attention := rfl
@[simp] theorem setPlatenBlocked_host (p) (b) : (State.setPlatenBlocked p b s).host = s.host := rfl
@[simp] theorem setPlatenBlocked_choices (p) (b) : (State.setPlatenBlocked p b s).choices = s.choices := rfl
@[simp] theorem setPlatenBlocked_pending (p) (b) : (State.setPlatenBlocked p b s).pending = s.pending := rfl

@[simp] theorem setService_mode (n) (v) : (State.setService n v s).mode = s.mode := rfl
@[simp] theorem setService_timebase (n) (v) : (State.setService n v s).timebase = s.timebase := rfl
@[simp] theorem setService_book (n) (v) : (State.setService n v s).book = s.book := rfl
@[simp] theorem setService_garmentTable (n) (v) : (State.setService n v s).garmentTable = s.garmentTable := rfl
@[simp] theorem setService_art (n) (v) : (State.setService n v s).art = s.art := rfl
@[simp] theorem setService_recipes (n) (v) : (State.setService n v s).recipes = s.recipes := rfl
@[simp] theorem setService_sheet (n) (v) : (State.setService n v s).sheet = s.sheet := rfl
@[simp] theorem setService_station (n) (v) : (State.setService n v s).station = s.station := rfl
@[simp] theorem setService_tunnel (n) (v) : (State.setService n v s).tunnel = s.tunnel := rfl
@[simp] theorem setService_pack (n) (v) : (State.setService n v s).pack = s.pack := rfl
@[simp] theorem setService_attention (n) (v) : (State.setService n v s).attention = s.attention := rfl
@[simp] theorem setService_host (n) (v) : (State.setService n v s).host = s.host := rfl
@[simp] theorem setService_choices (n) (v) : (State.setService n v s).choices = s.choices := rfl
@[simp] theorem setService_pending (n) (v) : (State.setService n v s).pending = s.pending := rfl

@[simp] theorem setVoid_mode (n) (q) : (State.setVoid n q s).mode = s.mode := rfl
@[simp] theorem setVoid_timebase (n) (q) : (State.setVoid n q s).timebase = s.timebase := rfl
@[simp] theorem setVoid_book (n) (q) : (State.setVoid n q s).book = s.book := rfl
@[simp] theorem setVoid_garmentTable (n) (q) : (State.setVoid n q s).garmentTable = s.garmentTable := rfl
@[simp] theorem setVoid_art (n) (q) : (State.setVoid n q s).art = s.art := rfl
@[simp] theorem setVoid_recipes (n) (q) : (State.setVoid n q s).recipes = s.recipes := rfl
@[simp] theorem setVoid_sheet (n) (q) : (State.setVoid n q s).sheet = s.sheet := rfl
@[simp] theorem setVoid_station (n) (q) : (State.setVoid n q s).station = s.station := rfl
@[simp] theorem setVoid_tunnel (n) (q) : (State.setVoid n q s).tunnel = s.tunnel := rfl
@[simp] theorem setVoid_pack (n) (q) : (State.setVoid n q s).pack = s.pack := rfl
@[simp] theorem setVoid_attention (n) (q) : (State.setVoid n q s).attention = s.attention := rfl
@[simp] theorem setVoid_host (n) (q) : (State.setVoid n q s).host = s.host := rfl
@[simp] theorem setVoid_choices (n) (q) : (State.setVoid n q s).choices = s.choices := rfl
@[simp] theorem setVoid_pending (n) (q) : (State.setVoid n q s).pending = s.pending := rfl

@[simp] theorem setUnloadRecord_mode (r) : (State.setUnloadRecord r s).mode = s.mode := rfl
@[simp] theorem setUnloadRecord_timebase (r) : (State.setUnloadRecord r s).timebase = s.timebase := rfl
@[simp] theorem setUnloadRecord_book (r) : (State.setUnloadRecord r s).book = s.book := rfl
@[simp] theorem setUnloadRecord_garmentTable (r) : (State.setUnloadRecord r s).garmentTable = s.garmentTable := rfl
@[simp] theorem setUnloadRecord_art (r) : (State.setUnloadRecord r s).art = s.art := rfl
@[simp] theorem setUnloadRecord_recipes (r) : (State.setUnloadRecord r s).recipes = s.recipes := rfl
@[simp] theorem setUnloadRecord_sheet (r) : (State.setUnloadRecord r s).sheet = s.sheet := rfl
@[simp] theorem setUnloadRecord_station (r) : (State.setUnloadRecord r s).station = s.station := rfl
@[simp] theorem setUnloadRecord_tunnel (r) : (State.setUnloadRecord r s).tunnel = s.tunnel := rfl
@[simp] theorem setUnloadRecord_pack (r) : (State.setUnloadRecord r s).pack = s.pack := rfl
@[simp] theorem setUnloadRecord_attention (r) : (State.setUnloadRecord r s).attention = s.attention := rfl
@[simp] theorem setUnloadRecord_host (r) : (State.setUnloadRecord r s).host = s.host := rfl
@[simp] theorem setUnloadRecord_choices (r) : (State.setUnloadRecord r s).choices = s.choices := rfl
@[simp] theorem setUnloadRecord_pending (r) : (State.setUnloadRecord r s).pending = s.pending := rfl

@[simp] theorem clearStops_mode : (State.clearStops s).mode = s.mode := rfl
@[simp] theorem clearStops_timebase : (State.clearStops s).timebase = s.timebase := rfl
@[simp] theorem clearStops_book : (State.clearStops s).book = s.book := rfl
@[simp] theorem clearStops_garmentTable : (State.clearStops s).garmentTable = s.garmentTable := rfl
@[simp] theorem clearStops_art : (State.clearStops s).art = s.art := rfl
@[simp] theorem clearStops_recipes : (State.clearStops s).recipes = s.recipes := rfl
@[simp] theorem clearStops_sheet : (State.clearStops s).sheet = s.sheet := rfl
@[simp] theorem clearStops_station : (State.clearStops s).station = s.station := rfl
@[simp] theorem clearStops_tunnel : (State.clearStops s).tunnel = s.tunnel := rfl
@[simp] theorem clearStops_pack : (State.clearStops s).pack = s.pack := rfl
@[simp] theorem clearStops_attention : (State.clearStops s).attention = s.attention := rfl
@[simp] theorem clearStops_host : (State.clearStops s).host = s.host := rfl
@[simp] theorem clearStops_choices : (State.clearStops s).choices = s.choices := rfl
@[simp] theorem clearStops_pending : (State.clearStops s).pending = s.pending := rfl

@[simp] theorem modLink_mode (l) (f) : (State.modLink l f s).mode = s.mode := rfl
@[simp] theorem modLink_timebase (l) (f) : (State.modLink l f s).timebase = s.timebase := rfl
@[simp] theorem modLink_book (l) (f) : (State.modLink l f s).book = s.book := rfl
@[simp] theorem modLink_garmentTable (l) (f) : (State.modLink l f s).garmentTable = s.garmentTable := rfl
@[simp] theorem modLink_art (l) (f) : (State.modLink l f s).art = s.art := rfl
@[simp] theorem modLink_recipes (l) (f) : (State.modLink l f s).recipes = s.recipes := rfl
@[simp] theorem modLink_sheet (l) (f) : (State.modLink l f s).sheet = s.sheet := rfl
@[simp] theorem modLink_carousel (l) (f) : (State.modLink l f s).carousel = s.carousel := rfl
@[simp] theorem modLink_tunnel (l) (f) : (State.modLink l f s).tunnel = s.tunnel := rfl
@[simp] theorem modLink_pack (l) (f) : (State.modLink l f s).pack = s.pack := rfl
@[simp] theorem modLink_attention (l) (f) : (State.modLink l f s).attention = s.attention := rfl
@[simp] theorem modLink_host (l) (f) : (State.modLink l f s).host = s.host := rfl
@[simp] theorem modLink_choices (l) (f) : (State.modLink l f s).choices = s.choices := rfl
@[simp] theorem modLink_pending (l) (f) : (State.modLink l f s).pending = s.pending := rfl

@[simp] theorem reply_mode (l) (c) (r) (p) : (State.reply l c r p s).mode = s.mode := rfl
@[simp] theorem reply_timebase (l) (c) (r) (p) : (State.reply l c r p s).timebase = s.timebase := rfl
@[simp] theorem reply_book (l) (c) (r) (p) : (State.reply l c r p s).book = s.book := rfl
@[simp] theorem reply_garmentTable (l) (c) (r) (p) : (State.reply l c r p s).garmentTable = s.garmentTable := rfl
@[simp] theorem reply_art (l) (c) (r) (p) : (State.reply l c r p s).art = s.art := rfl
@[simp] theorem reply_recipes (l) (c) (r) (p) : (State.reply l c r p s).recipes = s.recipes := rfl
@[simp] theorem reply_sheet (l) (c) (r) (p) : (State.reply l c r p s).sheet = s.sheet := rfl
@[simp] theorem reply_carousel (l) (c) (r) (p) : (State.reply l c r p s).carousel = s.carousel := rfl
@[simp] theorem reply_tunnel (l) (c) (r) (p) : (State.reply l c r p s).tunnel = s.tunnel := rfl
@[simp] theorem reply_pack (l) (c) (r) (p) : (State.reply l c r p s).pack = s.pack := rfl
@[simp] theorem reply_attention (l) (c) (r) (p) : (State.reply l c r p s).attention = s.attention := rfl
@[simp] theorem reply_host (l) (c) (r) (p) : (State.reply l c r p s).host = s.host := rfl
@[simp] theorem reply_choices (l) (c) (r) (p) : (State.reply l c r p s).choices = s.choices := rfl
@[simp] theorem reply_pending (l) (c) (r) (p) : (State.reply l c r p s).pending = s.pending := rfl

@[simp] theorem raise_mode (f) : (State.raise f s).mode = s.mode := rfl
@[simp] theorem raise_timebase (f) : (State.raise f s).timebase = s.timebase := rfl
@[simp] theorem raise_book (f) : (State.raise f s).book = s.book := rfl
@[simp] theorem raise_garmentTable (f) : (State.raise f s).garmentTable = s.garmentTable := rfl
@[simp] theorem raise_art (f) : (State.raise f s).art = s.art := rfl
@[simp] theorem raise_recipes (f) : (State.raise f s).recipes = s.recipes := rfl
@[simp] theorem raise_sheet (f) : (State.raise f s).sheet = s.sheet := rfl
@[simp] theorem raise_carousel (f) : (State.raise f s).carousel = s.carousel := rfl
@[simp] theorem raise_station (f) : (State.raise f s).station = s.station := rfl
@[simp] theorem raise_tunnel (f) : (State.raise f s).tunnel = s.tunnel := rfl
@[simp] theorem raise_pack (f) : (State.raise f s).pack = s.pack := rfl
@[simp] theorem raise_host (f) : (State.raise f s).host = s.host := rfl
@[simp] theorem raise_choices (f) : (State.raise f s).choices = s.choices := rfl
@[simp] theorem raise_pending (f) : (State.raise f s).pending = s.pending := rfl

@[simp] theorem answer_mode (n) (st) (r) : (State.answer n st r s).mode = s.mode := rfl
@[simp] theorem answer_timebase (n) (st) (r) : (State.answer n st r s).timebase = s.timebase := rfl
@[simp] theorem answer_book (n) (st) (r) : (State.answer n st r s).book = s.book := rfl
@[simp] theorem answer_garmentTable (n) (st) (r) : (State.answer n st r s).garmentTable = s.garmentTable := rfl
@[simp] theorem answer_art (n) (st) (r) : (State.answer n st r s).art = s.art := rfl
@[simp] theorem answer_recipes (n) (st) (r) : (State.answer n st r s).recipes = s.recipes := rfl
@[simp] theorem answer_sheet (n) (st) (r) : (State.answer n st r s).sheet = s.sheet := rfl
@[simp] theorem answer_carousel (n) (st) (r) : (State.answer n st r s).carousel = s.carousel := rfl
@[simp] theorem answer_station (n) (st) (r) : (State.answer n st r s).station = s.station := rfl
@[simp] theorem answer_tunnel (n) (st) (r) : (State.answer n st r s).tunnel = s.tunnel := rfl
@[simp] theorem answer_pack (n) (st) (r) : (State.answer n st r s).pack = s.pack := rfl
@[simp] theorem answer_attention (n) (st) (r) : (State.answer n st r s).attention = s.attention := rfl
@[simp] theorem answer_choices (n) (st) (r) : (State.answer n st r s).choices = s.choices := rfl
@[simp] theorem answer_pending (n) (st) (r) : (State.answer n st r s).pending = s.pending := rfl

@[simp] theorem setBin_mode (b) (v) : (State.setBin b v s).mode = s.mode := rfl
@[simp] theorem setBin_timebase (b) (v) : (State.setBin b v s).timebase = s.timebase := rfl
@[simp] theorem setBin_book (b) (v) : (State.setBin b v s).book = s.book := rfl
@[simp] theorem setBin_garmentTable (b) (v) : (State.setBin b v s).garmentTable = s.garmentTable := rfl
@[simp] theorem setBin_art (b) (v) : (State.setBin b v s).art = s.art := rfl
@[simp] theorem setBin_recipes (b) (v) : (State.setBin b v s).recipes = s.recipes := rfl
@[simp] theorem setBin_sheet (b) (v) : (State.setBin b v s).sheet = s.sheet := rfl
@[simp] theorem setBin_carousel (b) (v) : (State.setBin b v s).carousel = s.carousel := rfl
@[simp] theorem setBin_station (b) (v) : (State.setBin b v s).station = s.station := rfl
@[simp] theorem setBin_tunnel (b) (v) : (State.setBin b v s).tunnel = s.tunnel := rfl
@[simp] theorem setBin_attention (b) (v) : (State.setBin b v s).attention = s.attention := rfl
@[simp] theorem setBin_host (b) (v) : (State.setBin b v s).host = s.host := rfl
@[simp] theorem setBin_choices (b) (v) : (State.setBin b v s).choices = s.choices := rfl
@[simp] theorem setBin_pending (b) (v) : (State.setBin b v s).pending = s.pending := rfl

@[simp] theorem setSums_mode (r) : (State.setSums r s).mode = s.mode := rfl
@[simp] theorem setSums_timebase (r) : (State.setSums r s).timebase = s.timebase := rfl
@[simp] theorem setSums_book (r) : (State.setSums r s).book = s.book := rfl
@[simp] theorem setSums_garmentTable (r) : (State.setSums r s).garmentTable = s.garmentTable := rfl
@[simp] theorem setSums_art (r) : (State.setSums r s).art = s.art := rfl
@[simp] theorem setSums_recipes (r) : (State.setSums r s).recipes = s.recipes := rfl
@[simp] theorem setSums_carousel (r) : (State.setSums r s).carousel = s.carousel := rfl
@[simp] theorem setSums_station (r) : (State.setSums r s).station = s.station := rfl
@[simp] theorem setSums_tunnel (r) : (State.setSums r s).tunnel = s.tunnel := rfl
@[simp] theorem setSums_pack (r) : (State.setSums r s).pack = s.pack := rfl
@[simp] theorem setSums_attention (r) : (State.setSums r s).attention = s.attention := rfl
@[simp] theorem setSums_host (r) : (State.setSums r s).host = s.host := rfl
@[simp] theorem setSums_choices (r) : (State.setSums r s).choices = s.choices := rfl
@[simp] theorem setSums_pending (r) : (State.setSums r s).pending = s.pending := rfl

@[simp] theorem setGenerator_mode (n) : (State.setGenerator n s).mode = s.mode := rfl
@[simp] theorem setGenerator_timebase (n) : (State.setGenerator n s).timebase = s.timebase := rfl
@[simp] theorem setGenerator_book (n) : (State.setGenerator n s).book = s.book := rfl
@[simp] theorem setGenerator_art (n) : (State.setGenerator n s).art = s.art := rfl
@[simp] theorem setGenerator_recipes (n) : (State.setGenerator n s).recipes = s.recipes := rfl
@[simp] theorem setGenerator_sheet (n) : (State.setGenerator n s).sheet = s.sheet := rfl
@[simp] theorem setGenerator_carousel (n) : (State.setGenerator n s).carousel = s.carousel := rfl
@[simp] theorem setGenerator_station (n) : (State.setGenerator n s).station = s.station := rfl
@[simp] theorem setGenerator_tunnel (n) : (State.setGenerator n s).tunnel = s.tunnel := rfl
@[simp] theorem setGenerator_pack (n) : (State.setGenerator n s).pack = s.pack := rfl
@[simp] theorem setGenerator_attention (n) : (State.setGenerator n s).attention = s.attention := rfl
@[simp] theorem setGenerator_host (n) : (State.setGenerator n s).host = s.host := rfl
@[simp] theorem setGenerator_choices (n) : (State.setGenerator n s).choices = s.choices := rfl
@[simp] theorem setGenerator_pending (n) : (State.setGenerator n s).pending = s.pending := rfl

@[simp] theorem noteSpoil_mode (g) (r) : (State.noteSpoil g r s).mode = s.mode := rfl
@[simp] theorem noteSpoil_timebase (g) (r) : (State.noteSpoil g r s).timebase = s.timebase := rfl
@[simp] theorem noteSpoil_book (g) (r) : (State.noteSpoil g r s).book = s.book := rfl
@[simp] theorem noteSpoil_art (g) (r) : (State.noteSpoil g r s).art = s.art := rfl
@[simp] theorem noteSpoil_recipes (g) (r) : (State.noteSpoil g r s).recipes = s.recipes := rfl
@[simp] theorem noteSpoil_sheet (g) (r) : (State.noteSpoil g r s).sheet = s.sheet := rfl
@[simp] theorem noteSpoil_carousel (g) (r) : (State.noteSpoil g r s).carousel = s.carousel := rfl
@[simp] theorem noteSpoil_station (g) (r) : (State.noteSpoil g r s).station = s.station := rfl
@[simp] theorem noteSpoil_tunnel (g) (r) : (State.noteSpoil g r s).tunnel = s.tunnel := rfl
@[simp] theorem noteSpoil_pack (g) (r) : (State.noteSpoil g r s).pack = s.pack := rfl
@[simp] theorem noteSpoil_attention (g) (r) : (State.noteSpoil g r s).attention = s.attention := rfl
@[simp] theorem noteSpoil_host (g) (r) : (State.noteSpoil g r s).host = s.host := rfl
@[simp] theorem noteSpoil_choices (g) (r) : (State.noteSpoil g r s).choices = s.choices := rfl
@[simp] theorem noteSpoil_pending (g) (r) : (State.noteSpoil g r s).pending = s.pending := rfl

@[simp] theorem unbindGarments_mode (n) : (State.unbindGarments n s).mode = s.mode := rfl
@[simp] theorem unbindGarments_timebase (n) : (State.unbindGarments n s).timebase = s.timebase := rfl
@[simp] theorem unbindGarments_book (n) : (State.unbindGarments n s).book = s.book := rfl
@[simp] theorem unbindGarments_art (n) : (State.unbindGarments n s).art = s.art := rfl
@[simp] theorem unbindGarments_recipes (n) : (State.unbindGarments n s).recipes = s.recipes := rfl
@[simp] theorem unbindGarments_sheet (n) : (State.unbindGarments n s).sheet = s.sheet := rfl
@[simp] theorem unbindGarments_carousel (n) : (State.unbindGarments n s).carousel = s.carousel := rfl
@[simp] theorem unbindGarments_station (n) : (State.unbindGarments n s).station = s.station := rfl
@[simp] theorem unbindGarments_tunnel (n) : (State.unbindGarments n s).tunnel = s.tunnel := rfl
@[simp] theorem unbindGarments_pack (n) : (State.unbindGarments n s).pack = s.pack := rfl
@[simp] theorem unbindGarments_attention (n) : (State.unbindGarments n s).attention = s.attention := rfl
@[simp] theorem unbindGarments_host (n) : (State.unbindGarments n s).host = s.host := rfl
@[simp] theorem unbindGarments_choices (n) : (State.unbindGarments n s).choices = s.choices := rfl
@[simp] theorem unbindGarments_pending (n) : (State.unbindGarments n s).pending = s.pending := rfl

/-! ## What the updates of one record write -/

@[simp] theorem modGarment_garments (q f) : (State.modGarment q f s).garments =
    s.garments.map fun g => if g.seq = q then f g else g := rfl

@[simp] theorem addGarment_garments (g) : (State.addGarment g s).garments = s.garments ++ [g] := rfl

@[simp] theorem dropGarment_garments (q) : (State.dropGarment q s).garments = s.garments.filter (·.seq != q) := rfl

@[simp] theorem unbindGarments_garments (n) : (State.unbindGarments n s).garments =
    s.garments.map fun g => if g.bound.map (·.1) = some n then { g with bound := none } else g := rfl

@[simp] theorem noteSpoil_garments (g r) : (State.noteSpoil g r s).garments = s.garments := rfl

@[simp] theorem setGenerator_garments (n) : (State.setGenerator n s).garments = s.garments := rfl

@[simp] theorem modOrder_orders (n f) : (State.modOrder n f s).book.orders =
    s.book.orders.map fun o => if o.number = n then f o else o := rfl

@[simp] theorem modOrder_admission (n f) : (State.modOrder n f s).book.admission = s.book.admission := rfl

@[simp] theorem modLine_admission (b f) : (State.modLine b f s).book.admission = s.book.admission := rfl

@[simp] theorem setPlatenGarment_stops (p q) : (State.setPlatenGarment p q s).carousel.stops = s.carousel.stops := rfl

@[simp] theorem setService_platens (n v) : (State.setService n v s).carousel.platens = s.carousel.platens := rfl

@[simp] theorem raise_requests (f) : (State.raise f s).attention.requests = s.attention.requests ||| f.mask := rfl

@[simp] theorem raise_enables (f) : (State.raise f s).attention.enables = s.attention.enables := rfl

@[simp] theorem raise_master (f) : (State.raise f s).attention.master = s.attention.master := rfl

@[simp] theorem answer_answer (n st r) :
    (State.answer n st r s).host.answer = some { bytesIn := n, status := st, reply := r } := rfl

@[simp] theorem answer_orderCursor (n st r) : (State.answer n st r s).host.orderCursor = s.host.orderCursor := rfl

@[simp] theorem answer_lineCursor (n st r) : (State.answer n st r s).host.lineCursor = s.host.lineCursor := rfl

@[simp] theorem answer_garmentCursor (n st r) : (State.answer n st r s).host.garmentCursor = s.host.garmentCursor := rfl

@[simp] theorem hostTake_refuse (n st r) : s.hostTake n (.refuse st r) = s.answer n st r := rfl

@[simp] theorem hostTake_done (n t r) : s.hostTake n (.done t r) = t.answer n .ok r := rfl

end Sys2Proof.Machine.State
end

