-- ==== Sys2Proof/Laws/Records.lean ====
section
/-! SUPPORT. What a lookup of one record answers after an update of one record: garments, orders, lines, slots, banks,
platens, stops, links, bins and flags. -/

namespace Sys2Proof.Machine.State

variable (s : State)

/-! ## Lookups in a list whose entries are changed by their key -/

theorem find?_changed {α : Type} (key : α → Nat) (l : List α) (n : Nat) (f : α → α) (hf : ∀ a, key a = n → key (f a) = n) :
    (l.map fun a => if key a = n then f a else a).find? (fun a => key a == n) = (l.find? fun a => key a == n).map f := by
  induction l with
  | nil => rfl
  | cons a l ih =>
    by_cases h : key a = n
    · simp [h, hf a h]
    · simp [h, ih]

theorem find?_unchanged {α : Type} (key : α → Nat) (l : List α) (n m : Nat) (f : α → α)
    (hf : ∀ a, key a = n → key (f a) = n) (hm : m ≠ n) :
    (l.map fun a => if key a = n then f a else a).find? (fun a => key a == m) = l.find? fun a => key a == m := by
  induction l with
  | nil => rfl
  | cons a l ih =>
    by_cases h : key a = n
    · have h1 : key (f a) ≠ m := by rw [hf a h]; exact fun e => hm e.symm
      have h2 : key a ≠ m := by rw [h]; exact fun e => hm e.symm
      simp [h, h1, ih, Ne.symm hm]
    · simp [List.find?_cons, h, ih]

/-! ## Garments -/

theorem garment?_seq {q : Nat} {g : Garment} (h : s.garment? q = some g) : g.seq = q := by
  have := List.find?_some h
  simpa using this

theorem garment?_mem {q : Nat} {g : Garment} (h : s.garment? q = some g) : g ∈ s.garments := List.mem_of_find?_eq_some h

theorem garment?_none {q : Nat} : s.garment? q = none ↔ ∀ g ∈ s.garments, g.seq ≠ q := by
  simp [garment?, List.find?_eq_none]

@[simp] theorem modGarment_garment?_self (q : Nat) (f : Garment → Garment) (hf : ∀ g, g.seq = q → (f g).seq = q) :
    (modGarment q f s).garment? q = (s.garment? q).map f :=
  find?_changed Garment.seq s.garments q f hf

theorem modGarment_garment?_other (q m : Nat) (f : Garment → Garment) (hf : ∀ g, g.seq = q → (f g).seq = q) (hm : m ≠ q) :
    (modGarment q f s).garment? m = s.garment? m :=
  find?_unchanged Garment.seq s.garments q m f hf hm

theorem addGarment_garment? (g : Garment) (m : Nat) :
    (addGarment g s).garment? m = (s.garment? m).or (if g.seq = m then some g else none) := by
  unfold garment?
  rw [addGarment_garments, List.find?_append]
  by_cases h : g.seq = m <;> simp [h]

theorem dropGarment_garment?_other (q m : Nat) (hm : m ≠ q) : (dropGarment q s).garment? m = s.garment? m := by
  unfold garment?
  rw [dropGarment_garments]
  induction s.garments with
  | nil => rfl
  | cons a l ih =>
    by_cases h : a.seq = q
    · have : a.seq ≠ m := by rw [h]; exact Ne.symm hm
      simp [h, Ne.symm hm, ih]
    · simp [List.find?_cons, h, ih]

@[simp] theorem dropGarment_garment?_self (q : Nat) : (dropGarment q s).garment? q = none := by
  rw [garment?_none]
  intro g hg
  rw [dropGarment_garments] at hg
  simpa using (List.mem_filter.mp hg).2

/-! ## Orders and lines -/

theorem order?_number {n : Nat} {o : Order} (h : s.order? n = some o) : o.number = n := by
  have := List.find?_some h
  simpa using this

theorem order?_mem {n : Nat} {o : Order} (h : s.order? n = some o) : o ∈ s.book.orders := List.mem_of_find?_eq_some h

theorem order?_none {n : Nat} : s.order? n = none ↔ ∀ o ∈ s.book.orders, o.number ≠ n := by
  simp [order?, List.find?_eq_none]

@[simp] theorem modOrder_order?_self (n : Nat) (f : Order → Order) (hf : ∀ o, o.number = n → (f o).number = n) :
    (modOrder n f s).order? n = (s.order? n).map f :=
  find?_changed Order.number s.book.orders n f hf

theorem modOrder_order?_other (n m : Nat) (f : Order → Order) (hf : ∀ o, o.number = n → (f o).number = n) (hm : m ≠ n) :
    (modOrder n f s).order? m = s.order? m :=
  find?_unchanged Order.number s.book.orders n m f hf hm

@[simp] theorem modLine_order?_self (b : Nat × Nat) (f : Line → Line) :
    (modLine b f s).order? b.1 = (s.order? b.1).map fun o => { o with lines := o.lines.modify b.2 f } :=
  modOrder_order?_self s b.1 _ fun _ h => h

theorem modLine_order?_other (b : Nat × Nat) (f : Line → Line) (m : Nat) (hm : m ≠ b.1) :
    (modLine b f s).order? m = s.order? m :=
  modOrder_order?_other s b.1 m _ (fun _ h => h) hm

theorem modify_eq_set {α : Type} (l : List α) (i : Nat) (a : α) (f : α → α) (h : l[i]? = some a) :
    l.modify i f = l.set i (f a) := by
  induction l generalizing i with
  | nil => simp at h
  | cons b l ih =>
    cases i with
    | zero => simp at h; simp [h]
    | succ i => simp at h; simp [ih i h]

/-! ## Slots and banks -/

@[simp] theorem setSlot_slot_self (n : Nat) (p : Profile) (h : n < 48) : (setSlot n p s).slot n = p := by
  unfold slot setSlot onArt
  simp [h]

theorem setSlot_slot_other (n m : Nat) (p : Profile) (h : m ≠ n) : (setSlot n p s).slot m = s.slot m := by
  unfold slot setSlot onArt
  simp [Ne.symm h]

@[simp] theorem setBank_bank_self (b : Fin 4) (v : Bank) : (setBank b v s).bank b = v := by
  unfold bank setBank onRecipes
  simp

theorem setBank_bank_other (b c : Fin 4) (v : Bank) (h : c ≠ b) : (setBank b v s).bank c = s.bank c := by
  unfold bank setBank onRecipes
  have : b.val ≠ c.val := fun e => h (Fin.ext e.symm)
  simp [this]

/-! ## Platens and stops -/

@[simp] theorem setPlatenGarment_platen_self (p : Nat) (q : Option Nat) (h : p < 16) :
    (setPlatenGarment p q s).platen p = { (s.platen p) with garment := q } := by
  simp [platen, setPlatenGarment, onCarousel, h]

theorem setPlatenGarment_platen_other (p m : Nat) (q : Option Nat) (h : m ≠ p) :
    (setPlatenGarment p q s).platen m = s.platen m := by
  simp [platen, setPlatenGarment, onCarousel, Ne.symm h]

/-- A platen whose garment reference is emptied holds none, whether or not the number names an entry. -/
theorem setPlatenGarment_none (p : Nat) : ((setPlatenGarment p none s).platen p).garment = none := by
  by_cases h : p < 16
  · rw [setPlatenGarment_platen_self s p none h]
  · simp [platen, setPlatenGarment, onCarousel, h]

@[simp] theorem setPlatenGarment_blocked (p m : Nat) (q : Option Nat) :
    ((setPlatenGarment p q s).platen m).blocked = (s.platen m).blocked := by
  by_cases h : m = p
  · subst h
    by_cases h' : m < 16
    · rw [setPlatenGarment_platen_self s m q h']
    · simp [platen, setPlatenGarment, onCarousel, h']
  · rw [setPlatenGarment_platen_other s p m q h]

@[simp] theorem setPlatenBlocked_platen_self (p : Nat) (b : Bool) (h : p < 16) :
    (setPlatenBlocked p b s).platen p = { (s.platen p) with blocked := b } := by
  simp [platen, setPlatenBlocked, onCarousel, h]

theorem setPlatenBlocked_platen_other (p m : Nat) (b : Bool) (h : m ≠ p) :
    (setPlatenBlocked p b s).platen m = s.platen m := by
  simp [platen, setPlatenBlocked, onCarousel, Ne.symm h]

@[simp] theorem setService_stop_self (n : Nat) (v : Service) (h : n < 16) :
    (setService n v s).stop n = { (s.stop n) with service := v } := by
  simp [stop, setService, onCarousel, h]

theorem setService_stop_other (n m : Nat) (v : Service) (h : m ≠ n) : (setService n v s).stop m = s.stop m := by
  simp [stop, setService, onCarousel, Ne.symm h]

@[simp] theorem setVoid_stop_self (n : Nat) (q : Option Nat) (h : n < 16) :
    (setVoid n q s).stop n = { (s.stop n) with void := q } := by
  simp [stop, setVoid, onCarousel, h]

theorem setVoid_stop_other (n m : Nat) (q : Option Nat) (h : m ≠ n) : (setVoid n q s).stop m = s.stop m := by
  simp [stop, setVoid, onCarousel, Ne.symm h]

@[simp] theorem clearStops_stop (n : Nat) : (clearStops s).stop n = {} := by
  by_cases h : n < 16 <;> simp [stop, clearStops, onCarousel, h]

@[simp] theorem clearStops_unloadRecord : (clearStops s).carousel.unloadRecord = none := rfl

/-- The instruction record is kept by every service state but NONE (R121). -/
theorem setService_unloadRecord (n : Nat) (v : Service) (h : v ≠ .none) :
    (setService n v s).carousel.unloadRecord = s.carousel.unloadRecord := by
  simp [setService, onCarousel, h]

/-! ## Links, bins and flags -/

@[simp] theorem modLink_link_self (l : LinkNo) (f : Link → Link) : (modLink l f s).link l = f (s.link l) := by
  simp [link, modLink, onStation]

theorem modLink_link_other (l m : LinkNo) (f : Link → Link) (h : m ≠ l) : (modLink l f s).link m = s.link m := by
  have : l.val ≠ m.val := fun e => h (Fin.ext e.symm)
  simp [link, modLink, onStation, this]

theorem reply_link_other (l m : LinkNo) (c : Byte) (r : ReplyCode) (p : List Byte) (h : m ≠ l) :
    (reply l c r p s).link m = s.link m :=
  modLink_link_other s l m _ h

@[simp] theorem reply_inkTolerance (l : LinkNo) (c : Byte) (r : ReplyCode) (p : List Byte) :
    (reply l c r p s).station.inkTolerance = s.station.inkTolerance := rfl

@[simp] theorem setBin_bin_self (b : Nat) (v : Option BinHold) (h : b < 32) : (setBin b v s).bin b = v := by
  simp [bin, setBin, onPack, h]

theorem setBin_bin_other (b m : Nat) (v : Option BinHold) (h : m ≠ b) : (setBin b v s).bin m = s.bin m := by
  simp [bin, setBin, onPack, Ne.symm h]

/-- A bin that is freed reads as free, whether or not the number names an entry. -/
theorem freeBin_bin_self (b : Nat) : (freeBin b s).bin b = none := by
  by_cases h : b < 32
  · exact setBin_bin_self s b none h
  · simp [bin, freeBin, setBin, onPack, h]

theorem mask_bit (f k : Flag) : f.mask.getLsbD k.number = decide (f = k) := by
  cases f <;> cases k <;> rfl

@[simp] theorem raise_requested (f k : Flag) : (raise f s).requested k = (s.requested k || decide (f = k)) := by
  unfold requested
  rw [raise_requests, BitVec.getLsbD_or, mask_bit]

end Sys2Proof.Machine.State
end

