-- ==== Sys2Proof/Laws/Frames.lean ====
section
/-! SUPPORT. What each shared operation leaves as it was: one lemma per operation, so that no proof unfolds one to see that a
block is unchanged. -/

namespace Sys2Proof.Machine.State

variable (s : State)

/-- Two states with the same fields are the same. -/
theorem ext_fields {s t : State} (h1 : s.mode = t.mode) (h2 : s.timebase = t.timebase) (h3 : s.book = t.book)
    (h4 : s.garmentTable = t.garmentTable) (h5 : s.art = t.art) (h6 : s.recipes = t.recipes) (h7 : s.sheet = t.sheet)
    (h8 : s.carousel = t.carousel) (h9 : s.station = t.station) (h10 : s.tunnel = t.tunnel) (h11 : s.pack = t.pack)
    (h12 : s.attention = t.attention) (h13 : s.host = t.host) (h14 : s.choices = t.choices)
    (h15 : s.pending = t.pending) : s = t := by
  cases s; cases t; simp_all

@[simp] theorem freeBin_keeps (b) :
    (freeBin b s).mode = s.mode ∧ (freeBin b s).timebase = s.timebase ∧ (freeBin b s).book = s.book
    ∧ (freeBin b s).garmentTable = s.garmentTable ∧ (freeBin b s).art = s.art ∧ (freeBin b s).recipes = s.recipes
    ∧ (freeBin b s).sheet = s.sheet ∧ (freeBin b s).carousel = s.carousel ∧ (freeBin b s).station = s.station
    ∧ (freeBin b s).tunnel = s.tunnel ∧ (freeBin b s).attention = s.attention ∧ (freeBin b s).host = s.host
    ∧ (freeBin b s).choices = s.choices ∧ (freeBin b s).pending = s.pending := by
  exact ⟨rfl, rfl, rfl, rfl, rfl, rfl, rfl, rfl, rfl, rfl, rfl, rfl, rfl, rfl⟩

@[simp] theorem handBackBin_keeps (b) :
    (handBackBin b s).mode = s.mode ∧ (handBackBin b s).timebase = s.timebase ∧ (handBackBin b s).book = s.book
    ∧ (handBackBin b s).garmentTable = s.garmentTable ∧ (handBackBin b s).art = s.art
    ∧ (handBackBin b s).recipes = s.recipes ∧ (handBackBin b s).sheet = s.sheet
    ∧ (handBackBin b s).carousel = s.carousel ∧ (handBackBin b s).station = s.station
    ∧ (handBackBin b s).tunnel = s.tunnel ∧ (handBackBin b s).host = s.host ∧ (handBackBin b s).choices = s.choices
    ∧ (handBackBin b s).pending = s.pending := by
  unfold handBackBin
  try dsimp only
  repeat' split
  all_goals simp

@[simp] theorem cancellationEnd_keeps (n) :
    (cancellationEnd n s).mode = s.mode ∧ (cancellationEnd n s).timebase = s.timebase
    ∧ (cancellationEnd n s).garmentTable = s.garmentTable ∧ (cancellationEnd n s).art = s.art
    ∧ (cancellationEnd n s).recipes = s.recipes ∧ (cancellationEnd n s).sheet = s.sheet
    ∧ (cancellationEnd n s).carousel = s.carousel ∧ (cancellationEnd n s).station = s.station
    ∧ (cancellationEnd n s).tunnel = s.tunnel ∧ (cancellationEnd n s).host = s.host
    ∧ (cancellationEnd n s).choices = s.choices ∧ (cancellationEnd n s).pending = s.pending := by
  unfold cancellationEnd
  try dsimp only
  repeat' split
  all_goals simp

@[simp] theorem completionTest_keeps (n) :
    (completionTest n s).mode = s.mode ∧ (completionTest n s).timebase = s.timebase
    ∧ (completionTest n s).garmentTable = s.garmentTable ∧ (completionTest n s).art = s.art
    ∧ (completionTest n s).recipes = s.recipes ∧ (completionTest n s).sheet = s.sheet
    ∧ (completionTest n s).carousel = s.carousel ∧ (completionTest n s).station = s.station
    ∧ (completionTest n s).tunnel = s.tunnel ∧ (completionTest n s).pack = s.pack
    ∧ (completionTest n s).host = s.host ∧ (completionTest n s).choices = s.choices
    ∧ (completionTest n s).pending = s.pending := by
  unfold completionTest
  try dsimp only
  repeat' split
  all_goals simp

@[simp] theorem allocate_keeps (b) :
    (allocate b s).mode = s.mode ∧ (allocate b s).timebase = s.timebase
    ∧ (allocate b s).garmentTable = s.garmentTable ∧ (allocate b s).art = s.art
    ∧ (allocate b s).recipes = s.recipes ∧ (allocate b s).sheet = s.sheet ∧ (allocate b s).carousel = s.carousel
    ∧ (allocate b s).station = s.station ∧ (allocate b s).tunnel = s.tunnel ∧ (allocate b s).pack = s.pack
    ∧ (allocate b s).attention = s.attention ∧ (allocate b s).host = s.host ∧ (allocate b s).choices = s.choices
    ∧ (allocate b s).pending = s.pending := by
  exact ⟨rfl, rfl, rfl, rfl, rfl, rfl, rfl, rfl, rfl, rfl, rfl, rfl, rfl, rfl⟩

@[simp] theorem giveBack_keeps (b) :
    (giveBack b s).mode = s.mode ∧ (giveBack b s).timebase = s.timebase
    ∧ (giveBack b s).garmentTable = s.garmentTable ∧ (giveBack b s).art = s.art
    ∧ (giveBack b s).recipes = s.recipes ∧ (giveBack b s).sheet = s.sheet ∧ (giveBack b s).carousel = s.carousel
    ∧ (giveBack b s).station = s.station ∧ (giveBack b s).tunnel = s.tunnel ∧ (giveBack b s).host = s.host
    ∧ (giveBack b s).choices = s.choices ∧ (giveBack b s).pending = s.pending := by
  unfold giveBack
  try dsimp only
  repeat' split
  all_goals simp

@[simp] theorem countSpoil_keeps (b) :
    (countSpoil b s).mode = s.mode ∧ (countSpoil b s).timebase = s.timebase
    ∧ (countSpoil b s).garmentTable = s.garmentTable ∧ (countSpoil b s).art = s.art
    ∧ (countSpoil b s).recipes = s.recipes ∧ (countSpoil b s).sheet = s.sheet
    ∧ (countSpoil b s).carousel = s.carousel ∧ (countSpoil b s).station = s.station
    ∧ (countSpoil b s).tunnel = s.tunnel ∧ (countSpoil b s).host = s.host ∧ (countSpoil b s).choices = s.choices
    ∧ (countSpoil b s).pending = s.pending := by
  unfold countSpoil
  try dsimp only
  repeat' split
  all_goals simp

@[simp] theorem applyPending_keeps (b) :
    (applyPending b s).mode = s.mode ∧ (applyPending b s).timebase = s.timebase ∧ (applyPending b s).book = s.book
    ∧ (applyPending b s).garmentTable = s.garmentTable ∧ (applyPending b s).art = s.art
    ∧ (applyPending b s).sheet = s.sheet ∧ (applyPending b s).carousel = s.carousel
    ∧ (applyPending b s).station = s.station ∧ (applyPending b s).tunnel = s.tunnel
    ∧ (applyPending b s).pack = s.pack ∧ (applyPending b s).host = s.host ∧ (applyPending b s).choices = s.choices
    ∧ (applyPending b s).pending = s.pending := by
  unfold applyPending
  try dsimp only
  repeat' split
  all_goals simp

@[simp] theorem dropSlotUse_keeps (n) :
    (dropSlotUse n s).mode = s.mode ∧ (dropSlotUse n s).timebase = s.timebase ∧ (dropSlotUse n s).book = s.book
    ∧ (dropSlotUse n s).garmentTable = s.garmentTable ∧ (dropSlotUse n s).recipes = s.recipes
    ∧ (dropSlotUse n s).sheet = s.sheet ∧ (dropSlotUse n s).carousel = s.carousel
    ∧ (dropSlotUse n s).station = s.station ∧ (dropSlotUse n s).tunnel = s.tunnel ∧ (dropSlotUse n s).pack = s.pack
    ∧ (dropSlotUse n s).attention = s.attention ∧ (dropSlotUse n s).host = s.host
    ∧ (dropSlotUse n s).choices = s.choices ∧ (dropSlotUse n s).pending = s.pending := by
  exact ⟨rfl, rfl, rfl, rfl, rfl, rfl, rfl, rfl, rfl, rfl, rfl, rfl, rfl, rfl⟩

@[simp] theorem dropBankUse_keeps (b) :
    (dropBankUse b s).mode = s.mode ∧ (dropBankUse b s).timebase = s.timebase ∧ (dropBankUse b s).book = s.book
    ∧ (dropBankUse b s).garmentTable = s.garmentTable ∧ (dropBankUse b s).art = s.art
    ∧ (dropBankUse b s).sheet = s.sheet ∧ (dropBankUse b s).carousel = s.carousel
    ∧ (dropBankUse b s).station = s.station ∧ (dropBankUse b s).tunnel = s.tunnel ∧ (dropBankUse b s).pack = s.pack
    ∧ (dropBankUse b s).host = s.host ∧ (dropBankUse b s).choices = s.choices
    ∧ (dropBankUse b s).pending = s.pending := by
  unfold dropBankUse
  dsimp only; split <;> simp

@[simp] theorem takeClaim_keeps (c) :
    (takeClaim c s).mode = s.mode ∧ (takeClaim c s).timebase = s.timebase ∧ (takeClaim c s).book = s.book
    ∧ (takeClaim c s).garmentTable = s.garmentTable ∧ (takeClaim c s).sheet = s.sheet
    ∧ (takeClaim c s).carousel = s.carousel ∧ (takeClaim c s).station = s.station
    ∧ (takeClaim c s).tunnel = s.tunnel ∧ (takeClaim c s).pack = s.pack ∧ (takeClaim c s).attention = s.attention
    ∧ (takeClaim c s).host = s.host ∧ (takeClaim c s).choices = s.choices ∧ (takeClaim c s).pending = s.pending := by
  exact ⟨rfl, rfl, rfl, rfl, rfl, rfl, rfl, rfl, rfl, rfl, rfl, rfl, rfl⟩

@[simp] theorem releaseSheet_keeps (q) :
    (releaseSheet q s).mode = s.mode ∧ (releaseSheet q s).timebase = s.timebase ∧ (releaseSheet q s).book = s.book
    ∧ (releaseSheet q s).sheet = s.sheet ∧ (releaseSheet q s).carousel = s.carousel
    ∧ (releaseSheet q s).station = s.station ∧ (releaseSheet q s).tunnel = s.tunnel
    ∧ (releaseSheet q s).pack = s.pack ∧ (releaseSheet q s).host = s.host ∧ (releaseSheet q s).choices = s.choices
    ∧ (releaseSheet q s).pending = s.pending := by
  unfold releaseSheet
  try dsimp only
  repeat' split
  all_goals simp

@[simp] theorem releaseTest_keeps (q) :
    (releaseTest q s).mode = s.mode ∧ (releaseTest q s).timebase = s.timebase ∧ (releaseTest q s).book = s.book
    ∧ (releaseTest q s).sheet = s.sheet ∧ (releaseTest q s).carousel = s.carousel
    ∧ (releaseTest q s).station = s.station ∧ (releaseTest q s).tunnel = s.tunnel ∧ (releaseTest q s).pack = s.pack
    ∧ (releaseTest q s).host = s.host ∧ (releaseTest q s).choices = s.choices
    ∧ (releaseTest q s).pending = s.pending := by
  unfold releaseTest
  try dsimp only
  repeat' split
  all_goals simp

@[simp] theorem spoil_keeps (q) (r) :
    (spoil q r s).mode = s.mode ∧ (spoil q r s).timebase = s.timebase ∧ (spoil q r s).sheet = s.sheet
    ∧ (spoil q r s).carousel = s.carousel ∧ (spoil q r s).station = s.station ∧ (spoil q r s).tunnel = s.tunnel
    ∧ (spoil q r s).host = s.host ∧ (spoil q r s).choices = s.choices ∧ (spoil q r s).pending = s.pending := by
  unfold spoil
  try dsimp only
  repeat' split
  all_goals simp

@[simp] theorem restock_keeps (q) :
    (restock q s).mode = s.mode ∧ (restock q s).timebase = s.timebase ∧ (restock q s).sheet = s.sheet
    ∧ (restock q s).carousel = s.carousel ∧ (restock q s).station = s.station ∧ (restock q s).tunnel = s.tunnel
    ∧ (restock q s).host = s.host ∧ (restock q s).choices = s.choices ∧ (restock q s).pending = s.pending := by
  unfold restock
  try dsimp only
  repeat' split
  all_goals simp

@[simp] theorem leavePlace_keeps (g) :
    (leavePlace g s).mode = s.mode ∧ (leavePlace g s).timebase = s.timebase ∧ (leavePlace g s).book = s.book
    ∧ (leavePlace g s).garmentTable = s.garmentTable ∧ (leavePlace g s).art = s.art
    ∧ (leavePlace g s).recipes = s.recipes ∧ (leavePlace g s).sheet = s.sheet
    ∧ (leavePlace g s).station = s.station ∧ (leavePlace g s).attention = s.attention
    ∧ (leavePlace g s).host = s.host ∧ (leavePlace g s).choices = s.choices ∧ (leavePlace g s).pending = s.pending := by
  unfold leavePlace
  dsimp only; split <;> simp

@[simp] theorem retire_keeps (q) :
    (retire q s).mode = s.mode ∧ (retire q s).timebase = s.timebase ∧ (retire q s).book = s.book
    ∧ (retire q s).sheet = s.sheet ∧ (retire q s).station = s.station ∧ (retire q s).choices = s.choices
    ∧ (retire q s).pending = s.pending := by
  unfold retire
  try dsimp only
  repeat' split
  all_goals simp

@[simp] theorem cancelMatch_keeps (g) :
    (cancelMatch g s).mode = s.mode ∧ (cancelMatch g s).timebase = s.timebase ∧ (cancelMatch g s).sheet = s.sheet
    ∧ (cancelMatch g s).station = s.station ∧ (cancelMatch g s).choices = s.choices
    ∧ (cancelMatch g s).pending = s.pending := by
  unfold cancelMatch
  simp

@[simp] theorem recompute_keeps (n) :
    (recompute n s).mode = s.mode ∧ (recompute n s).timebase = s.timebase ∧ (recompute n s).book = s.book
    ∧ (recompute n s).garmentTable = s.garmentTable ∧ (recompute n s).art = s.art
    ∧ (recompute n s).recipes = s.recipes ∧ (recompute n s).sheet = s.sheet ∧ (recompute n s).station = s.station
    ∧ (recompute n s).tunnel = s.tunnel ∧ (recompute n s).pack = s.pack ∧ (recompute n s).attention = s.attention
    ∧ (recompute n s).host = s.host ∧ (recompute n s).choices = s.choices ∧ (recompute n s).pending = s.pending := by
  unfold recompute
  try dsimp only
  repeat' split
  all_goals simp

@[simp] theorem recomputeAll_keeps :
    (recomputeAll s).mode = s.mode ∧ (recomputeAll s).timebase = s.timebase ∧ (recomputeAll s).book = s.book
    ∧ (recomputeAll s).garmentTable = s.garmentTable ∧ (recomputeAll s).art = s.art
    ∧ (recomputeAll s).recipes = s.recipes ∧ (recomputeAll s).sheet = s.sheet
    ∧ (recomputeAll s).station = s.station ∧ (recomputeAll s).tunnel = s.tunnel ∧ (recomputeAll s).pack = s.pack
    ∧ (recomputeAll s).attention = s.attention ∧ (recomputeAll s).host = s.host
    ∧ (recomputeAll s).choices = s.choices ∧ (recomputeAll s).pending = s.pending := by
  unfold recomputeAll
  simp

@[simp] theorem stopTunnelTimers_keeps :
    (stopTunnelTimers s).mode = s.mode ∧ (stopTunnelTimers s).timebase = s.timebase
    ∧ (stopTunnelTimers s).book = s.book ∧ (stopTunnelTimers s).garmentTable = s.garmentTable
    ∧ (stopTunnelTimers s).art = s.art ∧ (stopTunnelTimers s).recipes = s.recipes
    ∧ (stopTunnelTimers s).sheet = s.sheet ∧ (stopTunnelTimers s).carousel = s.carousel
    ∧ (stopTunnelTimers s).station = s.station ∧ (stopTunnelTimers s).pack = s.pack
    ∧ (stopTunnelTimers s).attention = s.attention ∧ (stopTunnelTimers s).host = s.host
    ∧ (stopTunnelTimers s).choices = s.choices ∧ (stopTunnelTimers s).pending = s.pending := by
  exact ⟨rfl, rfl, rfl, rfl, rfl, rfl, rfl, rfl, rfl, rfl, rfl, rfl, rfl, rfl⟩

@[simp] theorem endDrain_keeps :
    (endDrain s).timebase = s.timebase ∧ (endDrain s).book = s.book ∧ (endDrain s).garmentTable = s.garmentTable
    ∧ (endDrain s).art = s.art ∧ (endDrain s).recipes = s.recipes ∧ (endDrain s).sheet = s.sheet
    ∧ (endDrain s).station = s.station ∧ (endDrain s).pack = s.pack ∧ (endDrain s).host = s.host
    ∧ (endDrain s).choices = s.choices ∧ (endDrain s).pending = s.pending := by
  exact ⟨rfl, rfl, rfl, rfl, rfl, rfl, rfl, rfl, rfl, rfl, rfl⟩

@[simp] theorem drainTest_keeps :
    (drainTest s).timebase = s.timebase ∧ (drainTest s).book = s.book ∧ (drainTest s).garmentTable = s.garmentTable
    ∧ (drainTest s).art = s.art ∧ (drainTest s).recipes = s.recipes ∧ (drainTest s).sheet = s.sheet
    ∧ (drainTest s).station = s.station ∧ (drainTest s).pack = s.pack ∧ (drainTest s).host = s.host
    ∧ (drainTest s).choices = s.choices ∧ (drainTest s).pending = s.pending := by
  unfold drainTest
  try dsimp only
  repeat' split
  all_goals simp

@[simp] theorem poolTest_keeps :
    (poolTest s).mode = s.mode ∧ (poolTest s).timebase = s.timebase ∧ (poolTest s).book = s.book
    ∧ (poolTest s).garmentTable = s.garmentTable ∧ (poolTest s).art = s.art ∧ (poolTest s).recipes = s.recipes
    ∧ (poolTest s).sheet = s.sheet ∧ (poolTest s).carousel = s.carousel ∧ (poolTest s).station = s.station
    ∧ (poolTest s).tunnel = s.tunnel ∧ (poolTest s).pack = s.pack ∧ (poolTest s).host = s.host
    ∧ (poolTest s).choices = s.choices ∧ (poolTest s).pending = s.pending := by
  unfold poolTest
  try dsimp only
  repeat' split
  all_goals simp

@[simp] theorem makeMatch_keeps (k) (b) (a) :
    (makeMatch k b a s).mode = s.mode ∧ (makeMatch k b a s).timebase = s.timebase
    ∧ (makeMatch k b a s).station = s.station ∧ (makeMatch k b a s).tunnel = s.tunnel
    ∧ (makeMatch k b a s).pack = s.pack ∧ (makeMatch k b a s).host = s.host
    ∧ (makeMatch k b a s).choices = s.choices ∧ (makeMatch k b a s).pending = s.pending := by
  unfold makeMatch
  simp

@[simp] theorem moveGarment_keeps (n) (q) (g) (b) (a) :
    (moveGarment n q g b a s).mode = s.mode ∧ (moveGarment n q g b a s).timebase = s.timebase
    ∧ (moveGarment n q g b a s).station = s.station ∧ (moveGarment n q g b a s).tunnel = s.tunnel
    ∧ (moveGarment n q g b a s).host = s.host ∧ (moveGarment n q g b a s).choices = s.choices
    ∧ (moveGarment n q g b a s).pending = s.pending := by
  unfold moveGarment
  simp

@[simp] theorem reassign_keeps (n) (q) :
    (reassign n q s).mode = s.mode ∧ (reassign n q s).timebase = s.timebase ∧ (reassign n q s).station = s.station
    ∧ (reassign n q s).tunnel = s.tunnel ∧ (reassign n q s).host = s.host ∧ (reassign n q s).choices = s.choices
    ∧ (reassign n q s).pending = s.pending := by
  unfold reassign
  try dsimp only
  repeat' split
  all_goals simp

@[simp] theorem noteConflict_keeps (r) :
    (noteConflict r s).mode = s.mode ∧ (noteConflict r s).timebase = s.timebase ∧ (noteConflict r s).book = s.book
    ∧ (noteConflict r s).garmentTable = s.garmentTable ∧ (noteConflict r s).art = s.art
    ∧ (noteConflict r s).recipes = s.recipes ∧ (noteConflict r s).sheet = s.sheet
    ∧ (noteConflict r s).carousel = s.carousel ∧ (noteConflict r s).station = s.station
    ∧ (noteConflict r s).pack = s.pack ∧ (noteConflict r s).attention = s.attention
    ∧ (noteConflict r s).host = s.host ∧ (noteConflict r s).choices = s.choices
    ∧ (noteConflict r s).pending = s.pending := by
  exact ⟨rfl, rfl, rfl, rfl, rfl, rfl, rfl, rfl, rfl, rfl, rfl, rfl, rfl, rfl⟩

@[simp] theorem markOverlap_keeps (q) :
    (markOverlap q s).mode = s.mode ∧ (markOverlap q s).timebase = s.timebase ∧ (markOverlap q s).book = s.book
    ∧ (markOverlap q s).art = s.art ∧ (markOverlap q s).recipes = s.recipes ∧ (markOverlap q s).sheet = s.sheet
    ∧ (markOverlap q s).carousel = s.carousel ∧ (markOverlap q s).station = s.station
    ∧ (markOverlap q s).tunnel = s.tunnel ∧ (markOverlap q s).pack = s.pack
    ∧ (markOverlap q s).attention = s.attention ∧ (markOverlap q s).host = s.host
    ∧ (markOverlap q s).choices = s.choices ∧ (markOverlap q s).pending = s.pending := by
  exact ⟨rfl, rfl, rfl, rfl, rfl, rfl, rfl, rfl, rfl, rfl, rfl, rfl, rfl, rfl⟩

@[simp] theorem layOnBelt_keeps (q) :
    (layOnBelt q s).mode = s.mode ∧ (layOnBelt q s).timebase = s.timebase ∧ (layOnBelt q s).book = s.book
    ∧ (layOnBelt q s).art = s.art ∧ (layOnBelt q s).recipes = s.recipes ∧ (layOnBelt q s).sheet = s.sheet
    ∧ (layOnBelt q s).carousel = s.carousel ∧ (layOnBelt q s).station = s.station ∧ (layOnBelt q s).pack = s.pack
    ∧ (layOnBelt q s).attention = s.attention ∧ (layOnBelt q s).host = s.host ∧ (layOnBelt q s).choices = s.choices
    ∧ (layOnBelt q s).pending = s.pending := by
  exact ⟨rfl, rfl, rfl, rfl, rfl, rfl, rfl, rfl, rfl, rfl, rfl, rfl, rfl⟩

@[simp] theorem recordOverlap_keeps (r) (q) (b) :
    (recordOverlap r q b s).mode = s.mode ∧ (recordOverlap r q b s).timebase = s.timebase
    ∧ (recordOverlap r q b s).book = s.book ∧ (recordOverlap r q b s).art = s.art
    ∧ (recordOverlap r q b s).recipes = s.recipes ∧ (recordOverlap r q b s).sheet = s.sheet
    ∧ (recordOverlap r q b s).carousel = s.carousel ∧ (recordOverlap r q b s).station = s.station
    ∧ (recordOverlap r q b s).pack = s.pack ∧ (recordOverlap r q b s).host = s.host
    ∧ (recordOverlap r q b s).choices = s.choices ∧ (recordOverlap r q b s).pending = s.pending := by
  unfold recordOverlap
  dsimp only; split <;> simp

@[simp] theorem placeOnBelt_keeps (r) (q) (n) :
    (placeOnBelt r q n s).mode = s.mode ∧ (placeOnBelt r q n s).timebase = s.timebase
    ∧ (placeOnBelt r q n s).book = s.book ∧ (placeOnBelt r q n s).art = s.art
    ∧ (placeOnBelt r q n s).recipes = s.recipes ∧ (placeOnBelt r q n s).sheet = s.sheet
    ∧ (placeOnBelt r q n s).carousel = s.carousel ∧ (placeOnBelt r q n s).station = s.station
    ∧ (placeOnBelt r q n s).pack = s.pack ∧ (placeOnBelt r q n s).host = s.host
    ∧ (placeOnBelt r q n s).choices = s.choices ∧ (placeOnBelt r q n s).pending = s.pending := by
  unfold placeOnBelt
  try dsimp only
  repeat' split
  all_goals simp

@[simp] theorem removeOrder_keeps (o) :
    (removeOrder o s).mode = s.mode ∧ (removeOrder o s).timebase = s.timebase ∧ (removeOrder o s).art = s.art
    ∧ (removeOrder o s).recipes = s.recipes ∧ (removeOrder o s).sheet = s.sheet
    ∧ (removeOrder o s).carousel = s.carousel ∧ (removeOrder o s).station = s.station
    ∧ (removeOrder o s).tunnel = s.tunnel ∧ (removeOrder o s).choices = s.choices
    ∧ (removeOrder o s).pending = s.pending := by
  unfold removeOrder
  try dsimp only
  repeat' split
  all_goals simp

@[simp] theorem lateTest_keeps :
    (lateTest s).mode = s.mode ∧ (lateTest s).timebase = s.timebase ∧ (lateTest s).book = s.book
    ∧ (lateTest s).garmentTable = s.garmentTable ∧ (lateTest s).art = s.art ∧ (lateTest s).recipes = s.recipes
    ∧ (lateTest s).sheet = s.sheet ∧ (lateTest s).station = s.station ∧ (lateTest s).tunnel = s.tunnel
    ∧ (lateTest s).pack = s.pack ∧ (lateTest s).host = s.host ∧ (lateTest s).choices = s.choices
    ∧ (lateTest s).pending = s.pending := by
  unfold lateTest
  try dsimp only
  repeat' split
  all_goals simp

@[simp] theorem staleTest_keeps :
    (staleTest s).mode = s.mode ∧ (staleTest s).timebase = s.timebase ∧ (staleTest s).book = s.book
    ∧ (staleTest s).garmentTable = s.garmentTable ∧ (staleTest s).art = s.art ∧ (staleTest s).recipes = s.recipes
    ∧ (staleTest s).sheet = s.sheet ∧ (staleTest s).carousel = s.carousel ∧ (staleTest s).station = s.station
    ∧ (staleTest s).pack = s.pack ∧ (staleTest s).host = s.host ∧ (staleTest s).choices = s.choices
    ∧ (staleTest s).pending = s.pending := by
  unfold staleTest
  try dsimp only
  repeat' split
  all_goals simp

@[simp] theorem beginStall_keeps :
    (beginStall s).mode = s.mode ∧ (beginStall s).timebase = s.timebase ∧ (beginStall s).book = s.book
    ∧ (beginStall s).art = s.art ∧ (beginStall s).recipes = s.recipes ∧ (beginStall s).sheet = s.sheet
    ∧ (beginStall s).carousel = s.carousel ∧ (beginStall s).station = s.station ∧ (beginStall s).pack = s.pack
    ∧ (beginStall s).host = s.host ∧ (beginStall s).choices = s.choices ∧ (beginStall s).pending = s.pending := by
  exact ⟨rfl, rfl, rfl, rfl, rfl, rfl, rfl, rfl, rfl, rfl, rfl, rfl⟩

@[simp] theorem stallTest_keeps :
    (stallTest s).mode = s.mode ∧ (stallTest s).timebase = s.timebase ∧ (stallTest s).book = s.book
    ∧ (stallTest s).art = s.art ∧ (stallTest s).recipes = s.recipes ∧ (stallTest s).sheet = s.sheet
    ∧ (stallTest s).carousel = s.carousel ∧ (stallTest s).station = s.station ∧ (stallTest s).pack = s.pack
    ∧ (stallTest s).host = s.host ∧ (stallTest s).choices = s.choices ∧ (stallTest s).pending = s.pending := by
  unfold stallTest
  try dsimp only
  repeat' split
  all_goals simp

@[simp] theorem passTime_keeps (n) :
    (passTime n s).mode = s.mode ∧ (passTime n s).book = s.book ∧ (passTime n s).garmentTable = s.garmentTable
    ∧ (passTime n s).art = s.art ∧ (passTime n s).recipes = s.recipes ∧ (passTime n s).sheet = s.sheet
    ∧ (passTime n s).pack = s.pack ∧ (passTime n s).attention = s.attention ∧ (passTime n s).host = s.host
    ∧ (passTime n s).choices = s.choices ∧ (passTime n s).pending = s.pending := by
  exact ⟨rfl, rfl, rfl, rfl, rfl, rfl, rfl, rfl, rfl, rfl, rfl⟩

@[simp] theorem advance_keeps (n) :
    (advance n s).mode = s.mode ∧ (advance n s).book = s.book ∧ (advance n s).art = s.art
    ∧ (advance n s).recipes = s.recipes ∧ (advance n s).sheet = s.sheet ∧ (advance n s).pack = s.pack
    ∧ (advance n s).host = s.host ∧ (advance n s).choices = s.choices ∧ (advance n s).pending = s.pending := by
  unfold advance
  simp

end Sys2Proof.Machine.State
end

