-- ==== Sys2Proof/Laws/Ops.lean ====
section
/-! SUPPORT. What each shared operation does to the records it changes: one lemma per operation and kind of record, cited in
place of unfolding the operation. -/

namespace Sys2Proof.Machine.State

variable (s : State)

/-! ## Lookups read one block -/

theorem garment?_of_table {s t : State} (h : t.garmentTable = s.garmentTable) (q : Nat) : t.garment? q = s.garment? q := by
  unfold garment? garments; rw [h]

theorem garments_of_table {s t : State} (h : t.garmentTable = s.garmentTable) : t.garments = s.garments := by
  unfold garments; rw [h]

theorem order?_of_book {s t : State} (h : t.book = s.book) (n : Nat) : t.order? n = s.order? n := by
  unfold order?; rw [h]

theorem slot_of_art {s t : State} (h : t.art = s.art) (n : Nat) : t.slot n = s.slot n := by unfold slot; rw [h]

theorem bank_of_recipes {s t : State} (h : t.recipes = s.recipes) (b : Fin 4) : t.bank b = s.bank b := by unfold bank; rw [h]

theorem platen_of_carousel {s t : State} (h : t.carousel.platens = s.carousel.platens) (p : Nat) :
    t.platen p = s.platen p := by unfold platen; rw [h]

theorem stop_of_carousel {s t : State} (h : t.carousel.stops = s.carousel.stops) (n : Nat) : t.stop n = s.stop n := by
  unfold stop; rw [h]

theorem bin_of_pack {s t : State} (h : t.pack.bins = s.pack.bins) (b : Nat) : t.bin b = s.bin b := by unfold bin; rw [h]

theorem requested_of_attention {s t : State} (h : t.attention.requests = s.attention.requests) (f : Flag) :
    t.requested f = s.requested f := by unfold requested; rw [h]

theorem platenAt_of_carousel {s t : State} (h1 : t.carousel.platenCount = s.carousel.platenCount)
    (h2 : t.carousel.origin = s.carousel.origin) (n : Nat) : t.platenAt n = s.platenAt n := by
  unfold platenAt; rw [h1, h2]

/-! ## Bins (R143, R153) -/

/-- A bin handed back is freed, with BIN_CLEAR where garments lie in it (R153). -/
theorem handBackBin_some (k : Nat) :
    handBackBin (some k) s =
      if (s.bin k).any (0 < ·.count) then (freeBin k s).raise .binClear else freeBin k s := by
  unfold handBackBin
  dsimp only
  cases s.bin k <;> simp

/-- A bin handed back is free, and BIN_CLEAR is raised exactly where garments lie in it (R153). -/
theorem handBackBin_spec (b : Option Nat) :
    (∀ k, b = some k → (handBackBin b s).bin k = none) ∧ (∀ k, b ≠ some k → (handBackBin b s).bin k = s.bin k)
    ∧ ((handBackBin b s).requested .binClear = true ↔
        s.requested .binClear = true ∨ ∃ k h, b = some k ∧ s.bin k = some h ∧ 0 < h.count)
    ∧ ∀ f, f ≠ .binClear → (handBackBin b s).requested f = s.requested f := by
  cases b with
  | none => simp [handBackBin]
  | some k =>
    have hb : (handBackBin (some k) s).pack.bins = (freeBin k s).pack.bins := by
      rw [handBackBin_some]; split <;> rfl
    have hr : ∀ f, (freeBin k s).requested f = s.requested f := fun _ => rfl
    refine ⟨?_, ?_, ?_, ?_⟩
    · rintro m ⟨⟩
      rw [bin_of_pack hb, freeBin_bin_self]
    · intro m hm
      rw [bin_of_pack hb]
      exact setBin_bin_other s k m none fun e => hm (by rw [e])
    · rw [handBackBin_some]
      cases hk : s.bin k with
      | none => simp [hr, hk]
      | some h => by_cases hc : 0 < h.count <;> simp [hr, hk, hc]
    · intro f hf
      rw [handBackBin_some]
      split
      · rw [raise_requested, hr]; simp [Ne.symm hf]
      · rw [hr]

@[simp] theorem handBackBin_lists (b : Option Nat) :
    (handBackBin b s).pack.exitList = s.pack.exitList ∧ (handBackBin b s).pack.returnList = s.pack.returnList
    ∧ (handBackBin b s).pack.presented = s.pack.presented := by
  unfold handBackBin
  repeat' split
  all_goals exact ⟨rfl, rfl, rfl⟩

/-! ## Counter changes (R17, R19, R20) -/

/-- An order as the cancellation end condition leaves it (R17). -/
theorem cancellationEnd_order?_self (n : Nat) :
    (cancellationEnd n s).order? n = (s.order? n).map fun o =>
      if o.state = .cancelling ∧ o.allocatedSum = 0 then { o with state := .cancelled, bin := none } else o := by
  unfold cancellationEnd
  cases h : s.order? n with
  | none => simp [h]
  | some o =>
    by_cases hc : o.state = .cancelling ∧ o.allocatedSum = 0
    · simp only [hc, and_self, if_true, Option.map_some]
      rw [order?_of_book (s := modOrder n (fun o => { o with state := .cancelled, bin := none }) s) (by simp),
        modOrder_order?_self s n (fun o => { o with state := .cancelled, bin := none }) fun _ h => h, h]
      rfl
    · simp [hc, h]

theorem cancellationEnd_order?_other (n m : Nat) (hm : m ≠ n) : (cancellationEnd n s).order? m = s.order? m := by
  unfold cancellationEnd
  cases h : s.order? n with
  | none => rfl
  | some o =>
    by_cases hc : o.state = .cancelling ∧ o.allocatedSum = 0
    · simp only [hc, and_self, if_true]
      rw [order?_of_book (s := modOrder n (fun o => { o with state := .cancelled, bin := none }) s) (by simp),
        modOrder_order?_other s n m (fun o => { o with state := .cancelled, bin := none }) (fun _ h => h) hm]
    · simp [hc]

@[simp] theorem cancellationEnd_lists (n : Nat) :
    (cancellationEnd n s).pack.exitList = s.pack.exitList ∧ (cancellationEnd n s).pack.returnList = s.pack.returnList
    ∧ (cancellationEnd n s).pack.presented = s.pack.presented
    ∧ (cancellationEnd n s).book.admission = s.book.admission := by
  unfold cancellationEnd
  repeat' split
  all_goals simp

/-- The lines of an order are not changed by the cancellation end condition. -/
theorem cancellationEnd_lines (n m : Nat) {o : Order} (h : s.order? m = some o) :
    ∃ o', (cancellationEnd n s).order? m = some o' ∧ o'.lines = o.lines ∧ o'.number = o.number ∧ o'.cls = o.cls
      ∧ o'.overflow = o.overflow := by
  by_cases hm : m = n
  · subst hm
    rw [cancellationEnd_order?_self, h]
    by_cases hc : o.state = .cancelling ∧ o.allocatedSum = 0 <;> simp [hc]
  · exact ⟨o, by rw [cancellationEnd_order?_other s n m hm, h], rfl, rfl, rfl, rfl⟩

/-- A flag other than ORDER_CANCELLED and BIN_CLEAR is not raised by the cancellation end condition. -/
theorem cancellationEnd_requested (n : Nat) (f : Flag) (h1 : f ≠ .orderCancelled) (h2 : f ≠ .binClear) :
    (cancellationEnd n s).requested f = s.requested f := by
  unfold cancellationEnd
  repeat' split
  · rw [raise_requested, (handBackBin_spec _ _).2.2.2 f h2]
    simp [Ne.symm h1, requested]
  all_goals rfl

/-- The order after a return on one of its lines (R19). -/
theorem giveBack_lines (b : Nat × Nat) {o : Order} {l : Line} (ho : s.order? b.1 = some o) (hl : o.lines[b.2]? = some l) :
    ∃ o', (giveBack (some b) s).order? b.1 = some o'
      ∧ o'.lines = o.lines.set b.2 { l with allocated := l.allocated - 1 } ∧ o'.number = o.number
      ∧ o'.cls = o.cls ∧ o'.overflow = o.overflow := by
  have h := modLine_order?_self s b fun l => { l with allocated := l.allocated - 1 }
  rw [ho] at h
  obtain ⟨o', h1, h2, h3, h4, h5⟩ := cancellationEnd_lines _ b.1 b.1 h
  exact ⟨o', h1, by rw [h2]; exact modify_eq_set _ _ _ _ hl, h3, h4, h5⟩

/-- The order after a spoil on one of its lines (R19). -/
theorem countSpoil_lines (b : Nat × Nat) {o : Order} {l : Line} (ho : s.order? b.1 = some o) (hl : o.lines[b.2]? = some l) :
    ∃ o', (countSpoil (some b) s).order? b.1 = some o'
      ∧ o'.lines = o.lines.set b.2 { l with allocated := l.allocated - 1, spoiled := min 255 (l.spoiled + 1) }
      ∧ o'.number = o.number ∧ o'.cls = o.cls ∧ o'.overflow = o.overflow := by
  have h := modLine_order?_self s b fun l =>
    { l with allocated := l.allocated - 1, spoiled := min spoiledCap (l.spoiled + 1) }
  rw [ho] at h
  obtain ⟨o', h1, h2, h3, h4, h5⟩ := cancellationEnd_lines _ b.1 b.1 h
  exact ⟨o', h1, by rw [h2]; exact modify_eq_set _ _ _ _ hl, h3, h4, h5⟩

@[simp] theorem giveBack_lists (b : Option (Nat × Nat)) :
    (giveBack b s).pack.exitList = s.pack.exitList ∧ (giveBack b s).pack.returnList = s.pack.returnList
    ∧ (giveBack b s).pack.presented = s.pack.presented ∧ (giveBack b s).book.admission = s.book.admission := by
  unfold giveBack
  split <;> simp

@[simp] theorem countSpoil_lists (b : Option (Nat × Nat)) :
    (countSpoil b s).pack.exitList = s.pack.exitList ∧ (countSpoil b s).pack.returnList = s.pack.returnList
    ∧ (countSpoil b s).pack.presented = s.pack.presented ∧ (countSpoil b s).book.admission = s.book.admission := by
  unfold countSpoil
  split <;> simp

/-! ## Use counts and sheet release (R59, R61, R62) -/

/-- A bank that applies its pending edits, entry by entry (R59). -/
theorem applyPending_bank_self (b : Fin 4) :
    (applyPending b s).bank b = if markedCount (s.bank b) = 0 then s.bank b else applyEntries (s.bank b) := by
  unfold applyPending
  by_cases h : markedCount (s.bank b) = 0
  · simp [h]
  · simp only [h, if_false]
    rw [bank_of_recipes (s := setBank b (applyEntries (s.bank b)) s) (by simp), setBank_bank_self]

theorem applyPending_bank_other (b c : Fin 4) (h : c ≠ b) : (applyPending b s).bank c = s.bank c := by
  unfold applyPending
  split
  · rfl
  · rw [bank_of_recipes (s := setBank b (applyEntries (s.bank b)) s) (by simp), setBank_bank_other _ _ _ _ h]

/-- A flag other than BANK_APPLIED is not raised when a bank applies its edits. -/
theorem applyPending_requested (b : Fin 4) (f : Flag) (h : f ≠ .bankApplied) :
    (applyPending b s).requested f = s.requested f := by
  unfold applyPending
  split
  · rfl
  · rw [raise_requested]; simp [Ne.symm h, requested]

theorem dropBankUse_requested (b : Fin 4) (f : Flag) (h : f ≠ .bankApplied) :
    (dropBankUse b s).requested f = s.requested f := by
  unfold dropBankUse
  dsimp only
  split
  · rw [applyPending_requested _ _ _ h]; rfl
  · rfl

/-- The garment whose sheet is released gives up its claim (R62). -/
theorem releaseSheet_garment?_self (q : Nat) :
    (releaseSheet q s).garment? q = (s.garment? q).map fun g => { g with claim := none } := by
  unfold releaseSheet
  cases hg : s.garment? q with
  | none => simp [hg]
  | some g =>
    cases hc : g.claim with
    | none =>
      simp only [Option.bind_some, hc, hg, Option.map_some]
      rw [← hc]
    | some c =>
      simp only [Option.bind_some, hc]
      rw [garment?_of_table (s := modGarment q (fun g => { g with claim := none }) s) (by simp),
        modGarment_garment?_self s q (fun g => { g with claim := none }) fun _ h => h, hg]

theorem releaseSheet_garment?_other (q m : Nat) (hm : m ≠ q) : (releaseSheet q s).garment? m = s.garment? m := by
  unfold releaseSheet
  split
  · rw [garment?_of_table (s := modGarment q (fun g => { g with claim := none }) s) (by simp),
      modGarment_garment?_other s q m (fun g => { g with claim := none }) (fun _ h => h) hm]
  · rfl

@[simp] theorem releaseSheet_seqs (q : Nat) : (releaseSheet q s).garments.map (·.seq) = s.garments.map (·.seq) := by
  unfold releaseSheet
  split
  · rw [garments_of_table (s := modGarment q (fun g => { g with claim := none }) s) (by simp), modGarment_garments,
      List.map_map]
    refine List.map_congr_left fun g _ => ?_
    by_cases h : g.seq = q <;> simp [h]
  · rfl

/-- The tables, the generator and the last-spoil record are not changed by a release. -/
@[simp] theorem releaseSheet_table (q : Nat) :
    (releaseSheet q s).garmentTable.lastSpoil = s.garmentTable.lastSpoil
    ∧ (releaseSheet q s).garmentTable.generator = s.garmentTable.generator
    ∧ (releaseSheet q s).garmentTable.styles = s.garmentTable.styles
    ∧ (releaseSheet q s).garmentTable.colours = s.garmentTable.colours
    ∧ (releaseSheet q s).garmentTable.fabrics = s.garmentTable.fabrics := by
  unfold releaseSheet
  split
  · simp [modGarment]
  · exact ⟨rfl, rfl, rfl, rfl, rfl⟩

theorem releaseSheet_requested (q : Nat) (f : Flag) (h : f ≠ .bankApplied) :
    (releaseSheet q s).requested f = s.requested f := by
  unfold releaseSheet
  split
  · rw [dropBankUse_requested _ _ _ h]; rfl
  · rfl

/-- The release test releases the sheet exactly where no step among PRETREAT, WHITE and COLOR is owed (R62). -/
theorem releaseTest_garment?_self (q : Nat) :
    (releaseTest q s).garment? q = (s.garment? q).map fun g => if g.sheetDone then { g with claim := none } else g := by
  unfold releaseTest
  cases hg : s.garment? q with
  | none => simp [hg]
  | some g =>
    by_cases h : g.sheetDone = true
    · simp only [h, if_true, Option.map_some]
      rw [releaseSheet_garment?_self, hg]; rfl
    · simp [h, hg]

theorem releaseTest_garment?_other (q m : Nat) (hm : m ≠ q) : (releaseTest q s).garment? m = s.garment? m := by
  unfold releaseTest
  repeat' split
  · exact releaseSheet_garment?_other s q m hm
  all_goals rfl

@[simp] theorem releaseTest_table (q : Nat) :
    (releaseTest q s).garmentTable.lastSpoil = s.garmentTable.lastSpoil
    ∧ (releaseTest q s).garmentTable.generator = s.garmentTable.generator
    ∧ (releaseTest q s).garmentTable.styles = s.garmentTable.styles
    ∧ (releaseTest q s).garmentTable.colours = s.garmentTable.colours
    ∧ (releaseTest q s).garmentTable.fabrics = s.garmentTable.fabrics := by
  unfold releaseTest
  repeat' split
  all_goals simp

/-! ## Spoil, restock, retirement (R35, R36, R40, R43) -/

/-- A garment that is not ACTIVE is not spoiled again (R36). -/
theorem spoil_inactive (q : Nat) (r : SpoilReason) {g : Garment} (hg : s.garment? q = some g) (h : g.isActive = false) :
    spoil q r s = s := by
  simp [spoil, hg, h]

/-- The record of a garment that is spoiled (R36, R62). -/
theorem spoil_garment?_self (q : Nat) (r : SpoilReason) {g : Garment} (hg : s.garment? q = some g)
    (h : g.isActive = true) :
    (spoil q r s).garment? q = some { g with disposition := .spoiled r, claim := none } := by
  have e : spoil q r s =
      ((((modGarment q (fun g => { g with disposition := .spoiled r }) s).countSpoil g.bound).releaseSheet q).noteSpoil g
        r).raise .spoil := by
    simp [spoil, hg, h]
  rw [e]
  have h1 : ∀ u : State, (raise .spoil (noteSpoil g r u)).garment? q = u.garment? q := fun _ => rfl
  rw [h1, releaseSheet_garment?_self, garment?_of_table (s := modGarment q (fun g => { g with disposition := .spoiled r }) s) (by simp),
    modGarment_garment?_self s q (fun g => { g with disposition := .spoiled r }) fun _ h => h, hg]
  rfl

theorem spoil_garment?_other (q m : Nat) (r : SpoilReason) (hm : m ≠ q) : (spoil q r s).garment? m = s.garment? m := by
  unfold spoil
  repeat' split
  · have h1 : ∀ (u : State) (g : Garment), (raise .spoil (noteSpoil g r u)).garment? m = u.garment? m := fun _ _ => rfl
    rw [h1, releaseSheet_garment?_other _ _ _ hm,
      garment?_of_table (s := modGarment q (fun g => { g with disposition := .spoiled r }) s) (by simp),
      modGarment_garment?_other s q m (fun g => { g with disposition := .spoiled r }) (fun _ h => h) hm]
  all_goals rfl

/-- The last-spoil record after a spoil (R39). -/
theorem spoil_lastSpoil (q : Nat) (r : SpoilReason) {g : Garment} (hg : s.garment? q = some g) (h : g.isActive = true) :
    (spoil q r s).garmentTable.lastSpoil =
      { ticket := some q, order := g.bound.map (·.1), line := g.bound.map (·.2), reason := some r
        count := (s.garmentTable.lastSpoil.count + 1) % 65536 } := by
  simp [spoil, hg, h, noteSpoil, garment?_seq s hg, modGarment]

/-- A spoil raises SPOIL (R36). -/
theorem spoil_requested (q : Nat) (r : SpoilReason) {g : Garment} (hg : s.garment? q = some g) (h : g.isActive = true) :
    (spoil q r s).requested .spoil = true := by
  simp [spoil, hg, h]

@[simp] theorem spoil_lists (q : Nat) (r : SpoilReason) :
    (spoil q r s).pack.exitList = s.pack.exitList ∧ (spoil q r s).pack.returnList = s.pack.returnList
    ∧ (spoil q r s).pack.presented = s.pack.presented ∧ (spoil q r s).book.admission = s.book.admission := by
  unfold spoil
  repeat' split
  all_goals simp

@[simp] theorem leavePlace_carousel (g : Garment) :
    (leavePlace g s).carousel.stops = s.carousel.stops ∧ (leavePlace g s).carousel.origin = s.carousel.origin
    ∧ (leavePlace g s).carousel.platenCount = s.carousel.platenCount ∧ (leavePlace g s).carousel.dwell = s.carousel.dwell
    ∧ (leavePlace g s).carousel.late = s.carousel.late ∧ (leavePlace g s).carousel.dwellLimit = s.carousel.dwellLimit
    ∧ (leavePlace g s).carousel.lapLimit = s.carousel.lapLimit
    ∧ (leavePlace g s).carousel.unloadRecord = s.carousel.unloadRecord := by
  unfold leavePlace
  dsimp only
  split <;> exact ⟨rfl, rfl, rfl, rfl, rfl, rfl, rfl, rfl⟩

/-- The garments other than the one a release reaches are as they were. -/
theorem releaseSheet_filter (q : Nat) :
    (releaseSheet q s).garments.filter (·.seq != q) = s.garments.filter (·.seq != q) := by
  unfold releaseSheet
  split
  · rw [garments_of_table (s := modGarment q (fun g => { g with claim := none }) s) (by simp), modGarment_garments]
    induction s.garments with
    | nil => rfl
    | cons g l ih => by_cases h : g.seq = q <;> simp [h] at ih ⊢ <;> exact ih
  · rfl

/-- A retirement, with the garment cursor that stood on the garment (R43). -/
theorem retire_some (q : Nat) {g : Garment} (hg : s.garment? q = some g) :
    retire q s = if s.host.garmentCursor = some q then
        setGarmentCursor none (dropGarment q (releaseSheet q (leavePlace g s)))
      else dropGarment q (releaseSheet q (leavePlace g s)) := by
  simp [retire, hg]

/-- A retired garment is no longer live, and every other garment is as it was (R43). -/
@[simp] theorem retire_garments (q : Nat) : (retire q s).garments = s.garments.filter (·.seq != q) := by
  cases hg : s.garment? q with
  | none =>
    have : s.garments.filter (·.seq != q) = s.garments :=
      List.filter_eq_self.mpr fun g hmem => by simpa using (garment?_none s).mp hg g hmem
    simp [retire, hg, this]
  | some g =>
    have h : (dropGarment q (releaseSheet q (leavePlace g s))).garments = s.garments.filter (·.seq != q) := by
      rw [dropGarment_garments, releaseSheet_filter, garments_of_table (s := s) (t := leavePlace g s) (by simp)]
    rw [retire_some s q hg]
    split
    · exact h
    · exact h

theorem retire_garment?_self (q : Nat) : (retire q s).garment? q = none := by
  rw [garment?_none]
  intro g hg
  rw [retire_garments] at hg
  simpa using (List.mem_filter.mp hg).2

theorem retire_garment?_other (q m : Nat) (hm : m ≠ q) : (retire q s).garment? m = s.garment? m := by
  have := dropGarment_garment?_other s q m hm
  unfold garment? at *
  rw [dropGarment_garments] at this
  rw [retire_garments, this]

@[simp] theorem retire_carousel (q : Nat) :
    (retire q s).carousel.stops = s.carousel.stops ∧ (retire q s).carousel.origin = s.carousel.origin
    ∧ (retire q s).carousel.platenCount = s.carousel.platenCount ∧ (retire q s).carousel.dwell = s.carousel.dwell
    ∧ (retire q s).carousel.late = s.carousel.late ∧ (retire q s).carousel.dwellLimit = s.carousel.dwellLimit
    ∧ (retire q s).carousel.lapLimit = s.carousel.lapLimit
    ∧ (retire q s).carousel.unloadRecord = s.carousel.unloadRecord := by
  cases hg : s.garment? q with
  | none => simp [retire, hg]
  | some g => rw [retire_some s q hg]; split <;> simp

@[simp] theorem retire_table (q : Nat) :
    (retire q s).garmentTable.lastSpoil = s.garmentTable.lastSpoil
    ∧ (retire q s).garmentTable.generator = s.garmentTable.generator := by
  cases hg : s.garment? q with
  | none => simp [retire, hg]
  | some g => rw [retire_some s q hg]; split <;> simp [dropGarment]

/-- A garment leaves its place in every list (R43). -/
@[simp] theorem leavePlace_lists (g : Garment) :
    (leavePlace g s).pack.exitList = s.pack.exitList.filter (· != g.seq)
    ∧ (leavePlace g s).pack.returnList = s.pack.returnList.filter (· != g.seq)
    ∧ (leavePlace g s).pack.bins = s.pack.bins ∧ (leavePlace g s).pack.presented = s.pack.presented
    ∧ (leavePlace g s).tunnel = { s.tunnel with belt := s.tunnel.belt.filter (· != g.seq) } := by
  unfold leavePlace
  dsimp only
  split <;> exact ⟨rfl, rfl, rfl, rfl, rfl⟩

@[simp] theorem retire_bins (q : Nat) :
    (retire q s).pack.bins = s.pack.bins ∧ (retire q s).pack.presented = s.pack.presented := by
  cases hg : s.garment? q with
  | none => simp [retire, hg]
  | some g => rw [retire_some s q hg]; split <;> simp

/-- The lists after a retirement (R43). -/
theorem retire_lists (q : Nat) {g : Garment} (hg : s.garment? q = some g) :
    (retire q s).pack.exitList = s.pack.exitList.filter (· != q)
    ∧ (retire q s).pack.returnList = s.pack.returnList.filter (· != q)
    ∧ (retire q s).tunnel = { s.tunnel with belt := s.tunnel.belt.filter (· != q) } := by
  have := garment?_seq s hg
  rw [retire_some s q hg]
  split <;> simp [this]

theorem retire_requested (q : Nat) (f : Flag) (h : f ≠ .bankApplied) : (retire q s).requested f = s.requested f := by
  have e : ∀ g, (dropGarment q (releaseSheet q (leavePlace g s))).requested f = s.requested f := by
    intro g
    have : (dropGarment q (releaseSheet q (leavePlace g s))).requested f = (releaseSheet q (leavePlace g s)).requested f := rfl
    rw [this, releaseSheet_requested _ _ _ h, requested_of_attention (s := s) (by simp)]
  cases hg : s.garment? q with
  | none => simp [retire, hg]
  | some g =>
    rw [retire_some s q hg]
    split
    · exact e g
    · exact e g

/-- The garments after a cancelled match (R35). -/
theorem cancelMatch_garments (g : Garment) : (cancelMatch g s).garments = s.garments.filter (·.seq != g.seq) := by
  unfold cancelMatch
  rw [retire_garments, garments_of_table (s := releaseSheet g.seq (giveBack g.bound s)) (by simp), releaseSheet_filter,
    garments_of_table (s := s) (by simp)]

/-! ## The drain test (R160) -/

@[simp] theorem drainTest_garments : (drainTest s).garments = s.garments := garments_of_table (by simp)

/-- The drain test does nothing while a garment is live, or outside DRAIN (R160). -/
theorem drainTest_idle (h : s.mode ≠ .drain ∨ s.garments ≠ []) : drainTest s = s := by
  unfold drainTest
  rcases h with h | h <;> simp [h]

theorem drainTest_ends (h1 : s.mode = .drain) (h2 : s.garments = []) : drainTest s = endDrain s := by
  simp [drainTest, h1, h2]

/-- After an event that retired a garment the drain test is made; after any other it is not (R160). -/
theorem drainAfter_spec (before after : State) :
    before.drainAfter after = after.drainTest ∨ before.drainAfter after = after := by
  unfold drainAfter
  split
  · exact Or.inl rfl
  · exact Or.inr rfl

/-! ## Tests of the timers (R94, R129, R136) -/

/-- The late marker and STATION_LATE after the late test (R94). -/
theorem lateTest_spec :
    (lateTest s).carousel = { s.carousel with late := s.carousel.late || s.dwellIsLate }
    ∧ (lateTest s).requested .stationLate = (s.requested .stationLate || (s.dwellIsLate && !s.carousel.late))
    ∧ ∀ f, f ≠ .stationLate → (lateTest s).requested f = s.requested f := by
  by_cases h : (s.dwellIsLate && !s.carousel.late) = true
  · have e : lateTest s = raise .stationLate (onCarousel (fun c => { c with late := true }) s) := by
      simp only [lateTest, h, if_true]
    have hr : ∀ f, (onCarousel (fun c => { c with late := true }) s).requested f = s.requested f := fun _ => rfl
    rw [e]
    simp only [raise_carousel, onCarousel_carousel, raise_requested, hr, h]
    have hd : s.dwellIsLate = true := by simp at h; exact h.1
    refine ⟨by simp [hd], by simp, fun f hf => by simp [Ne.symm hf]⟩
  · have e : lateTest s = s := by simp only [lateTest, h]; rfl
    rw [e]
    refine ⟨?_, by simp [h], fun _ _ => rfl⟩
    have : (s.carousel.late || s.dwellIsLate) = s.carousel.late := by
      cases hl : s.carousel.late <;> simp_all
    rw [this]

@[simp] theorem lateTest_carousel :
    (lateTest s).carousel.stops = s.carousel.stops ∧ (lateTest s).carousel.platens = s.carousel.platens
    ∧ (lateTest s).carousel.origin = s.carousel.origin ∧ (lateTest s).carousel.platenCount = s.carousel.platenCount
    ∧ (lateTest s).carousel.unloadRecord = s.carousel.unloadRecord ∧ (lateTest s).carousel.dwell = s.carousel.dwell
    ∧ (lateTest s).carousel.dwellLimit = s.carousel.dwellLimit
    ∧ (lateTest s).carousel.lapLimit = s.carousel.lapLimit := by
  rw [(lateTest_spec s).1]
  exact ⟨rfl, rfl, rfl, rfl, rfl, rfl, rfl, rfl⟩

/-! ## Placement (R131, R132) -/

/-- The record of a garment that is placed on the belt (R132). -/
theorem placeOnBelt_garment?_self (returned : Bool) (q len : Nat) {g : Garment} (hg : s.garment? q = some g) :
    (placeOnBelt returned q len s).garment? q = some { g with
      place := .onBelt 0, inspect := { g.inspect with beltOverlap := g.inspect.beltOverlap || !s.entryClear len } } := by
  have lay : (layOnBelt q s).garment? q = some { g with place := .onBelt 0 } := by
    unfold layOnBelt
    rw [modGarment_garment?_self _ q (fun g => { g with place := .onBelt 0 }) fun _ h => h,
      garment?_of_table (s := s) (by simp), hg]
    rfl
  unfold placeOnBelt
  cases hc : s.entryClear len with
  | true => simp [lay]
  | false =>
    have mark : ((layOnBelt q s).noteConflict returned |>.markOverlap q).garment? q = some { g with
        place := .onBelt 0, inspect := { g.inspect with beltOverlap := true } } := by
      unfold markOverlap
      rw [modGarment_garment?_self _ q (fun g => { g with inspect := { g.inspect with beltOverlap := true } }) fun _ h => h,
        garment?_of_table (s := layOnBelt q s) (by simp), lay]
      rfl
    have e : (if false = true then layOnBelt q s else recordOverlap returned q s.tunnel.belt.getLast? (layOnBelt q s)) =
        recordOverlap returned q s.tunnel.belt.getLast? (layOnBelt q s) := rfl
    rw [e]
    simp only [Bool.not_false, Bool.or_true]
    unfold recordOverlap
    dsimp only
    cases s.tunnel.belt.getLast? with
    | none => exact mark
    | some b =>
      by_cases hb : q = b
      · subst hb
        have : (markOverlap q (markOverlap q (noteConflict returned (layOnBelt q s)))).garment? q = some { g with
            place := .onBelt 0, inspect := { g.inspect with beltOverlap := true } } := by
          unfold markOverlap
          rw [modGarment_garment?_self _ q (fun g => { g with inspect := { g.inspect with beltOverlap := true } }) fun _ h => h]
          unfold markOverlap at mark
          rw [mark]
          rfl
        exact this
      · have : (markOverlap b (markOverlap q (noteConflict returned (layOnBelt q s)))).garment? q = some { g with
            place := .onBelt 0, inspect := { g.inspect with beltOverlap := true } } := by
          rw [← mark]
          exact modGarment_garment?_other _ b q _ (fun _ h => h) hb
        exact this

/-- The belt list and the conflict set after a placement (R132). -/
theorem placeOnBelt_tunnel (returned : Bool) (q len : Nat) :
    (placeOnBelt returned q len s).tunnel = { s.tunnel with
      belt := s.tunnel.belt ++ [q]
      conflicts :=
        { entryOverlap := s.tunnel.conflicts.entryOverlap || (!returned && !s.entryClear len)
          returnOverlap := s.tunnel.conflicts.returnOverlap || (returned && !s.entryClear len) } } := by
  unfold placeOnBelt
  cases hc : s.entryClear len <;> cases returned
  · simp [recordOverlap, noteConflict, layOnBelt]
    cases s.tunnel.belt.getLast? <;> simp [markOverlap]
  · simp [recordOverlap, noteConflict, layOnBelt]
    cases s.tunnel.belt.getLast? <;> simp [markOverlap]
  · simp [layOnBelt]
  · simp [layOnBelt]

/-! ## Answers of a link (R99, R102, R104) -/

/-- A reply puts the receiver in ANSWERING and writes the link record, and nothing else (R102, R104). -/
@[simp] theorem reply_link_self (l : LinkNo) (c : Byte) (r : ReplyCode) (p : List Byte) :
    (reply l c r p s).link l = { (s.link l) with
      receiver := .answering (replyFrame c r p), lastRequest := some c, lastReply := some r } :=
  modLink_link_self s l _

/-- A request the checks refuse is answered with the check's code; one they pass is answered by its block (R102, R103). -/
theorem serve_spec (l : LinkNo) (rq : Request) (payload : List Byte) (block : State → Served) (h : s.answering l = false) :
    (∀ code, s.frameCheck l rq payload = some code → serve l rq payload block s = s.reply l rq.code code [])
    ∧ (s.frameCheck l rq payload = none →
        serve l rq payload block s = (block s).state.reply l rq.code (block s).code (block s).payload) := by
  unfold serve
  constructor
  · intro code hc; simp [h, hc]
  · intro hc; simp [h, hc]

/-! ## One millisecond (R93, R100, R129, R136, R162) -/

@[simp] theorem passTime_carousel (n : Nat) :
    (passTime n s).carousel = { s.carousel with dwell := min dwellCap (s.carousel.dwell + n) } := rfl

@[simp] theorem passTime_tunnel (n : Nat) :
    (passTime n s).tunnel = { s.tunnel with
      stale := s.tunnel.stale.map fun t => min staleCap (t + n), stall := s.tunnel.stall.map fun t => min stallCap (t + n) } :=
  rfl

@[simp] theorem passTime_timebase (n : Nat) : (passTime n s).timebase = (s.timebase + n) % 2 ^ 32 := rfl

/-- The stale marker after the stale test (R129). -/
theorem staleTest_tunnel :
    (staleTest s).tunnel = { s.tunnel with
      staleMarker := s.tunnel.staleMarker || s.tunnel.stale.any fun t => s.tunnel.staleLimit * 1000 ≤ t } := by
  have keep : ∀ b, (s.tunnel.staleMarker || b) = s.tunnel.staleMarker →
      s.tunnel = { s.tunnel with staleMarker := s.tunnel.staleMarker || b } := by
    intro b hb; rw [hb]
  unfold staleTest
  cases h : s.tunnel.stale with
  | none => dsimp only; rw [← h]; exact keep _ (by simp [h])
  | some t =>
    dsimp only
    by_cases hc : s.tunnel.staleLimit * 1000 ≤ t ∧ s.tunnel.staleMarker = false
    · simp [hc, h]
    · rw [if_neg hc, ← h]
      refine keep _ ?_
      rw [h]
      cases hm : s.tunnel.staleMarker with
      | true => rfl
      | false => simpa [hm] using hc

/-- The stall test begins a stall, or changes nothing (R136). -/
theorem stallTest_cases : stallTest s = s.beginStall ∨ stallTest s = s := by
  unfold stallTest; repeat' split
  all_goals simp

end Sys2Proof.Machine.State
end

