-- ==== Sys2Proof/Laws/Stations.lean ====
section
/-! SUPPORT. What the operations of the station requests do: the answer on a link, the tests of a completion report, a
fresh ticket, the finish of a garment and the end of DRAIN after it. -/

namespace Sys2Proof.Machine.State

variable (s : State)

/-! ## The answer on a link (R102, R104) -/

/-- Answering from a state with the same links answers the request. -/
theorem answered_reply (u : State) (h : u.station = s.station) (l : LinkNo) (rq : Request) (code : ReplyCode)
    (payload : List Byte) : s.Answered (u.reply l rq.code code payload) l rq code payload := by
  have hl : ∀ m, u.link m = s.link m := fun m => by unfold link; rw [h]
  refine ⟨?_, ?_, ?_⟩
  · rw [reply_link_self, hl]
  · intro m hm; rw [reply_link_other _ _ _ _ _ _ hm, hl]
  · rw [reply_inkTolerance, h]

variable (l : LinkNo) (c : Byte) (r : ReplyCode) (p : List Byte)

@[simp] theorem reply_garments : (reply l c r p s).garments = s.garments := rfl
@[simp] theorem reply_garment? (q : Nat) : (reply l c r p s).garment? q = s.garment? q := rfl
@[simp] theorem reply_order? (n : Nat) : (reply l c r p s).order? n = s.order? n := rfl
@[simp] theorem reply_stop (n : Nat) : (reply l c r p s).stop n = s.stop n := rfl
@[simp] theorem reply_service (n : Nat) : (reply l c r p s).service n = s.service n := rfl
@[simp] theorem reply_platen (n : Nat) : (reply l c r p s).platen n = s.platen n := rfl
@[simp] theorem reply_bin (n : Nat) : (reply l c r p s).bin n = s.bin n := rfl
@[simp] theorem reply_slot (n : Nat) : (reply l c r p s).slot n = s.slot n := rfl
@[simp] theorem reply_bank (b : Fin 4) : (reply l c r p s).bank b = s.bank b := rfl
@[simp] theorem reply_requested (f : Flag) : (reply l c r p s).requested f = s.requested f := rfl

/-! ## The tests of a completion report (R106) -/

/-- A report passes its tests exactly where the garment is live, on the platen at the stop, and the stop is IN_SERVICE, or
DUE with a recorded WAIT where the UNLOAD rule applies. -/
theorem reportTest_ok (stop seq : Nat) (waits : Bool) (g : Garment) :
    s.reportTest stop seq waits = .ok g ↔ s.garment? seq = some g ∧ (s.platen (s.platenAt stop)).garment = some seq
      ∧ (s.service stop = .inService
        ∨ (s.service stop = .due ∧ waits = true ∧ s.carousel.unloadRecord = some .wait)) := by
  unfold reportTest
  cases hg : s.garment? seq with
  | none => simp
  | some k =>
    by_cases hp : (s.platen (s.platenAt stop)).garment = some seq
    · cases hs : s.service stop <;> simp [hp]
      · split <;> simp_all
      · split <;> simp_all
    · simp [hp]

/-- A request that begins service, at a DUE stop with an ACTIVE garment before it (R105). -/
theorem beginService_due (stop : Nat) (f : Garment → List Byte) {g : Garment} (h1 : s.service stop = .due)
    (h2 : s.garmentAt stop = some g) (h3 : g.isActive = true) :
    s.beginService stop f = (servedOk (s.setService stop .inService) (f g)).lateTest := by
  unfold beginService; rw [h1, h2]; simp [h3]

/-- A repetition at a stop already IN_SERVICE is answered again and changes nothing (R105). -/
theorem beginService_inService (stop : Nat) (f : Garment → List Byte) {g : Garment} (h1 : s.service stop = .inService)
    (h2 : s.garmentAt stop = some g) : s.beginService stop f = servedOk s (f g) := by
  unfold beginService; rw [h1, h2]

/-! ## The recomputation of one stop (R86) -/

/-- A recomputation leaves a stop that is IN_SERVICE or DONE, and gives any other its due state. -/
theorem recompute_cases (n : Nat) :
    ((s.service n = .inService ∨ s.service n = .done) ∧ s.recompute n = s)
    ∨ (¬ (s.service n = .inService ∨ s.service n = .done) ∧ s.recompute n = s.setService n (s.dueState n)) := by
  unfold recompute
  by_cases h : s.service n = .inService ∨ s.service n = .done
  · exact Or.inl ⟨h, if_pos h⟩
  · exact Or.inr ⟨h, if_neg h⟩

/-! ## A fresh ticket (R28) -/


/-- The values a ticket search passes over stay in 1 to 99999999. -/
theorem nextSeq_range (n : Nat) : 1 ≤ nextSeq n ∧ nextSeq n ≤ 99999999 := by
  unfold nextSeq; split <;> omega

/-- A ticket search from a value in range ends in range. -/
theorem freeSeq_range (live : List Nat) (fuel : Nat) :
    ∀ n, 1 ≤ n → n ≤ 99999999 → 1 ≤ freeSeq live fuel n ∧ freeSeq live fuel n ≤ 99999999 := by
  induction fuel with
  | zero => intro n h1 h2; exact ⟨h1, h2⟩
  | succ k ih =>
    intro n h1 h2
    unfold freeSeq
    split
    · exact ih _ (nextSeq_range n).1 (nextSeq_range n).2
    · exact ⟨h1, h2⟩

/-- A search from a value no live garment holds ends there at once. -/
theorem freeSeq_self (live : List Nat) (fuel n : Nat) (h : n ∉ live) : freeSeq live fuel n = n := by
  cases fuel <;> simp [freeSeq, h]


/-- A value that a live garment holds is passed over (R28). -/
theorem freeSeq_passed (live : List Nat) (fuel n : Nat) (h : n ∈ live) :
    freeSeq live (fuel + 1) n = freeSeq live fuel (nextSeq n) := by
  simp [freeSeq, h]

/-- The value after a value, counted round from 99999999 to 1 (R28). -/
theorem nextSeq_eq (n : Nat) (h1 : 1 ≤ n) (h2 : n ≤ 99999999) : nextSeq n = (n - 1 + 1) % 99999999 + 1 := by
  unfold nextSeq; split <;> omega

/-! ## The end of DRAIN after a retirement (R160) -/

@[simp] theorem endDrain_garments : s.endDrain.garments = s.garments := rfl
@[simp] theorem endDrain_belt : s.endDrain.tunnel.belt = s.tunnel.belt := rfl
@[simp] theorem endDrain_mode : s.endDrain.mode = .setup := rfl
@[simp] theorem endDrain_drained : s.endDrain.requested .drained = true := by simp [endDrain]

/-- The end of the drain clears no attention flag. -/
theorem endDrain_requested (f : Flag) (h : s.requested f = true) : s.endDrain.requested f = true := by
  have hu : (setMode .setup s).clearStops.stopTunnelTimers.requested f = true := by
    rw [requested_of_attention (s := s) (by simp) f]; exact h
  simp [endDrain, hu]

/-- After an event that retires the one garment with the given ticket, the drain ends exactly where no other is live. -/
theorem drainAfter_cases (u : State) (seq : Nat) (hg : s.garment? seq ≠ none)
    (h : u.garments = s.garments.filter (·.seq != seq)) (hm : u.mode = s.mode) :
    (s.DrainEndsWith seq ∧ s.drainAfter u = u.endDrain) ∨ (¬ s.DrainEndsWith seq ∧ s.drainAfter u = u) := by
  have hlt : u.garments.length < s.garments.length := by
    rw [h]
    obtain ⟨g, hg⟩ := Option.ne_none_iff_exists'.mp hg
    have hmem := garment?_mem s hg
    have hs := garment?_seq s hg
    refine Nat.lt_of_le_of_ne (List.length_filter_le _ _) fun e => ?_
    have hall := List.length_filter_eq_length_iff.mp e g hmem
    simp [hs] at hall
  have e : s.drainAfter u = u.drainTest := by simp [drainAfter, hlt]
  by_cases hd : s.DrainEndsWith seq
  · refine Or.inl ⟨hd, ?_⟩
    rw [e]
    refine drainTest_ends u (by rw [hm]; exact hd.1) ?_
    rw [h]; simpa using hd.2
  · refine Or.inr ⟨hd, ?_⟩
    rw [e]
    refine drainTest_idle u ?_
    by_cases hm2 : s.mode = .drain
    · right
      rw [h]
      intro hh
      exact hd ⟨hm2, by simpa using hh⟩
    · left; rw [hm]; exact hm2

/-! ## The parts of a finish (R148) -/

/-- Retirement clears a garment cursor that stood on the garment (R43). -/
theorem retire_cursor (seq : Nat) (hg : s.garment? seq ≠ none) (h : s.host.garmentCursor = some seq) :
    (retire seq s).host.garmentCursor = none := by
  obtain ⟨g, hg⟩ := Option.ne_none_iff_exists'.mp hg
  rw [retire_some s seq hg, if_pos h]; rfl

@[simp] theorem testCancellation_keeps (b : Option (Nat × Nat)) :
    (testCancellation b s).garmentTable = s.garmentTable ∧ (testCancellation b s).tunnel = s.tunnel
    ∧ (testCancellation b s).host = s.host ∧ (testCancellation b s).mode = s.mode
    ∧ (testCancellation b s).carousel = s.carousel ∧ (testCancellation b s).station = s.station
    ∧ (testCancellation b s).pack.presented = s.pack.presented
    ∧ (testCancellation b s).pack.exitList = s.pack.exitList
    ∧ (testCancellation b s).pack.returnList = s.pack.returnList := by
  unfold testCancellation; split <;> simp

@[simp] theorem finishLine_keeps (b : Option (Nat × Nat)) :
    (finishLine b s).garmentTable = s.garmentTable ∧ (finishLine b s).tunnel = s.tunnel
    ∧ (finishLine b s).host = s.host ∧ (finishLine b s).mode = s.mode ∧ (finishLine b s).carousel = s.carousel
    ∧ (finishLine b s).station = s.station ∧ (finishLine b s).pack = s.pack := by
  unfold finishLine; split <;> simp

@[simp] theorem fillBin_keeps (b : Option Nat) :
    (fillBin b s).garmentTable = s.garmentTable ∧ (fillBin b s).tunnel = s.tunnel ∧ (fillBin b s).host = s.host
    ∧ (fillBin b s).mode = s.mode ∧ (fillBin b s).carousel = s.carousel ∧ (fillBin b s).station = s.station
    ∧ (fillBin b s).pack.presented = s.pack.presented ∧ (fillBin b s).pack.exitList = s.pack.exitList
    ∧ (fillBin b s).pack.returnList = s.pack.returnList ∧ (fillBin b s).book = s.book
    ∧ (fillBin b s).attention = s.attention := by
  unfold fillBin; repeat' split
  all_goals simp [setBin]

@[simp] theorem shipBin_keeps (g : Garment) :
    (shipBin g s).garmentTable = s.garmentTable ∧ (shipBin g s).tunnel = s.tunnel ∧ (shipBin g s).host = s.host
    ∧ (shipBin g s).mode = s.mode ∧ (shipBin g s).carousel = s.carousel ∧ (shipBin g s).station = s.station
    ∧ (shipBin g s).pack.presented = s.pack.presented ∧ (shipBin g s).pack.exitList = s.pack.exitList
    ∧ (shipBin g s).pack.returnList = s.pack.returnList ∧ (shipBin g s).attention = s.attention := by
  unfold shipBin; repeat' split
  all_goals simp [setBin, freeBin]

/-- Tests 4 to 6 of R145 change the bins, the order, and BIN_FULL alone (R146). -/
@[simp] theorem packChoice_keeps (o : Order) :
    (packChoice o s).2.garmentTable = s.garmentTable ∧ (packChoice o s).2.tunnel = s.tunnel
    ∧ (packChoice o s).2.host = s.host ∧ (packChoice o s).2.mode = s.mode
    ∧ (packChoice o s).2.carousel = s.carousel ∧ (packChoice o s).2.station = s.station
    ∧ (packChoice o s).2.art = s.art ∧ (packChoice o s).2.recipes = s.recipes
    ∧ (packChoice o s).2.pack.presented = s.pack.presented
    ∧ (packChoice o s).2.pack.exitList = s.pack.exitList
    ∧ (packChoice o s).2.pack.returnList = s.pack.returnList := by
  unfold packChoice binChoice; repeat' split
  all_goals simp [assignBin, overflowOrder, setBin]

/-- An order that holds no bin and has not overflowed takes the lowest-numbered free bin, or overflows where none is free
(R146). -/
theorem binChoice_none (o : Order) (h1 : o.overflow = false) (h2 : o.bin = none) :
    (∀ k, s.lowestFreeBin = some k → binChoice o s = (.pack, s.assignBin k o.number))
    ∧ (s.lowestFreeBin = none → binChoice o s = (.overflow, s.overflowOrder o.number)) := by
  constructor <;> intros <;> simp_all [binChoice]

/-! ### The order of the forced-index effects (R89) -/

theorem arrange_perm (named stops : List Nat) : (arrange named stops).Perm stops := by
  induction named generalizing stops with
  | nil => exact .refl _
  | cons n named ih =>
    unfold arrange
    split
    · next h => exact ((ih _).cons n).trans (List.perm_cons_erase (List.contains_iff_mem.mp h)).symm
    · exact ih _

/-- Whatever the free value, the effects reach each stop 0 to P - 1 once. -/
theorem effectOrder_perm : s.effectOrder.Perm s.stopNumbers := by
  unfold effectOrder; split
  · exact arrange_perm _ _
  · exact .refl _

theorem mem_effectOrder (n : Nat) : n ∈ s.effectOrder ↔ n < s.carousel.platenCount := by
  rw [(effectOrder_perm s).mem_iff, stopNumbers, List.mem_range]

theorem effectOrder_nodup : s.effectOrder.Nodup := (effectOrder_perm s).nodup_iff.mpr List.nodup_range

end Sys2Proof.Machine.State
end

