-- ==== Sys2Proof/Laws/Reassignment.lean ====
section
/-! SUPPORT. What the parts of the reassignment pass (R40 to R42) and of an index event (R89) leave as it was: one candidate
changes its own garment alone, and one forced-index effect the garment before its stop alone. -/

namespace Sys2Proof.Machine.State

variable (s : State)

/-! ## Claims (R61) -/

/-- A claim taken raises the use count of its slot by 1 (R61). -/
theorem takeClaim_slot (c : Claim) (n : Nat) (h : n < 48) :
    (takeClaim c s).slot n =
      if n = c.slot then { (s.slot n) with useCount := (s.slot n).useCount + 1 } else s.slot n := by
  have e : (takeClaim c s).slot n =
      (s.setSlot c.slot { (s.slot c.slot) with useCount := (s.slot c.slot).useCount + 1 }).slot n :=
    slot_of_art (by simp [takeClaim]) n
  rw [e]
  split
  · next hn => subst hn; exact setSlot_slot_self _ _ _ h
  · next hn => exact setSlot_slot_other _ _ _ _ hn

/-- A claim taken raises the use count of its bank by 1 (R61). -/
theorem takeClaim_bank (c : Claim) (b : Fin 4) :
    (takeClaim c s).bank b =
      if b = c.bank then { (s.bank b) with useCount := (s.bank b).useCount + 1 } else s.bank b := by
  unfold takeClaim
  dsimp only
  have e : ∀ d, (s.setSlot c.slot { (s.slot c.slot) with useCount := (s.slot c.slot).useCount + 1 }).bank d = s.bank d :=
    fun d => bank_of_recipes (by simp) d
  split
  · next hb => subst hb; rw [setBank_bank_self, e]
  · next hb => rw [setBank_bank_other _ _ _ _ hb, e]

/-! ## Counters and claims change no garment -/

theorem giveBack_garment? (b : Option (Nat × Nat)) (q : Nat) : (giveBack b s).garment? q = s.garment? q :=
  garment?_of_table (by simp) q

theorem allocate_garment? (b : Nat × Nat) (q : Nat) : (allocate b s).garment? q = s.garment? q :=
  garment?_of_table (by simp) q

theorem takeClaim_garment? (c : Claim) (q : Nat) : (takeClaim c s).garment? q = s.garment? q :=
  garment?_of_table (by simp) q

theorem recompute_garment? (n q : Nat) : (recompute n s).garment? q = s.garment? q := garment?_of_table (by simp) q

/-! ## Orders -/

/-- A return changes the order of its line alone (R19). -/
theorem giveBack_order?_other (b : Nat × Nat) (m : Nat) (hm : m ≠ b.1) :
    (giveBack (some b) s).order? m = s.order? m := by
  show (cancellationEnd b.1 (modLine b _ s)).order? m = _
  rw [cancellationEnd_order?_other _ _ _ hm, modLine_order?_other _ _ _ _ hm]

/-- The test of a cancellation changes the order of its line alone (R17). -/
theorem testCancellation_order?_other (b : Nat × Nat) (m : Nat) (hm : m ≠ b.1) :
    (testCancellation (some b) s).order? m = s.order? m :=
  cancellationEnd_order?_other s _ _ hm

/-! ## One candidate of the pass (R42) -/

/-- A candidate without a line is restocked, and its stop recomputed (R40, R42). -/
theorem reassign_restock (n q : Nat) {g : Garment} (hg : s.garment? q = some g) (h : s.chosenLine g.key = none) :
    reassign n q s = (s.restock q).recompute n := by
  simp [reassign, hg, h]

/-- A candidate with a line is moved to it (R42). -/
theorem reassign_move (n q : Nat) {g : Garment} {b : Nat × Nat} {l : Line} (hg : s.garment? q = some g)
    (h : s.chosenLine g.key = some b) (hl : s.line? b = some l) : reassign n q s = s.moveGarment n q g b l.art := by
  simp [reassign, hg, h, hl]

theorem restock_garment?_other (q m : Nat) (hm : m ≠ q) : (restock q s).garment? m = s.garment? m := by
  unfold restock
  split
  · rw [releaseSheet_garment?_other _ _ _ hm, giveBack_garment?]
    exact modGarment_garment?_other s q m (fun g => { g with disposition := .restock }) (fun _ h => h) hm
  · rfl

/-- A restock does not spoil: the garment takes RESTOCK and gives up its claim (R40). -/
theorem restock_garment?_self (q : Nat) :
    (restock q s).garment? q = (s.garment? q).map fun g => { g with disposition := .restock, claim := none } := by
  unfold restock
  cases hg : s.garment? q with
  | none => simp [hg]
  | some g =>
    simp only [Option.map_some]
    rw [releaseSheet_garment?_self, giveBack_garment?,
      modGarment_garment?_self s q (fun g => { g with disposition := .restock }) fun _ h => h, hg]
    rfl

theorem moveGarment_garment?_other (n q m : Nat) (g : Garment) (b : Nat × Nat) (a : ArtSettings) (hm : m ≠ q) :
    (moveGarment n q g b a s).garment? m = s.garment? m := by
  unfold moveGarment
  dsimp only
  rw [recompute_garment?, releaseTest_garment?_other _ _ _ hm, takeClaim_garment?]
  refine (modGarment_garment?_other _ q m _ ?_ hm).trans ?_
  · exact fun _ h => h
  refine (allocate_garment? _ b m).trans ?_
  refine (modGarment_garment?_other _ q m _ ?_ hm).trans ?_
  · exact fun _ h => h
  rw [releaseSheet_garment?_other _ q m hm, giveBack_garment?]

/-- One candidate changes no garment but its own (R41). -/
theorem reassign_garment?_other (n q m : Nat) (hm : m ≠ q) : (reassign n q s).garment? m = s.garment? m := by
  unfold reassign
  repeat' split
  · exact moveGarment_garment?_other s n q m _ _ _ hm
  · rfl
  · rw [recompute_garment?, restock_garment?_other s q m hm]
  · rfl

/-- Candidates taken one after the other change no garment but their own (R41). -/
theorem reassign_fold_garment?_other (cs : List (Nat × Nat)) (m : Nat) (hm : ∀ c ∈ cs, c.2 ≠ m) :
    (cs.foldl (fun t c => t.reassign c.1 c.2) s).garment? m = s.garment? m := by
  induction cs generalizing s with
  | nil => rfl
  | cons c cs ih =>
    rw [List.foldl_cons, ih _ fun d hd => hm d (List.mem_cons_of_mem _ hd)]
    exact reassign_garment?_other s c.1 c.2 m (hm c List.mem_cons_self).symm

/-! ## One forced-index effect (R89) -/

/-- A forced-index effect changes nothing where no station or no garment is at the stop. -/
theorem forcedEffect_empty (n : Nat) (h : s.stationAt n = none ∨ s.garmentAt n = none) : forcedEffect s n = s := by
  unfold forcedEffect
  rcases h with h | h <;> simp only [h]
  cases s.stationAt n <;> rfl

/-- A forced-index effect changes nothing at a stop that is not DUE and not IN_SERVICE. -/
theorem forcedEffect_idle (n : Nat) (h1 : s.service n ≠ .due) (h2 : s.service n ≠ .inService) : forcedEffect s n = s := by
  unfold forcedEffect
  split <;> try rfl
  cases h : s.service n <;> simp_all

end Sys2Proof.Machine.State
end

