-- ==== Sys2Proof/Tests/Slice0.lean ====
section
/-! SUPPORT. The model's own tests: ill-formed terms, words of the wire, the reference's worked cases, and for each
obligation with hypotheses a named witness that meets them. -/

namespace Sys2Proof.Tests

-- One theorem after the other: the kernel's evaluations below would else wait on one another, each on a thread of its own.
set_option Elab.async false

open Sys2Proof.Machine

/-! ## Well-formedness: an ill-formed term for each check -/

theorem test_illformed_profileData_short : WellFormed (.profileData 2 [0x12]) = false := by decide
theorem test_illformed_profileData_length_with_data : WellFormed (.profileData 65 [0x12]) = false := by decide
theorem test_illformed_setCureCurve_short : WellFormed (.setCureCurve 6 [0, 50, 10]) = false := by decide
theorem test_illformed_unknownCommand_named : WellFormed (.unknownCommand 0x7D) = false := by decide
theorem test_illformed_unknownRequestCode_named : WellFormed (.unknownRequestCode 0 0x10 []) = false := by decide
theorem test_illformed_cancellationEnd_zero : WellFormed (.cancellationEnd 0) = false := by decide
theorem test_illformed_payload_41 : WellFormed (.blankScan 0 (List.replicate 41 0)) = false := by decide
theorem test_wellformed_profileData_full : WellFormed (.profileData 64 (List.replicate 64 0x12)) = true := by decide
theorem test_wellformed_payload_40 : WellFormed (.blankScan 0 (List.replicate 40 0)) = true := by decide

/-! ## Words of the host link, written out from the table of R181 and the field layouts of R177 -/

theorem test_decode_mode : decodeTransaction [0x04] = .drain := by decide
theorem test_decode_attention : decodeTransaction [0x08, 0x01, 0x80, 0x01] = .writeAttentionRequests 1 0x8001 := by decide
/-- Order number 0000108230 travels as 00h 00h 10h 82h 30h (chapter 11, worked frames). -/
theorem test_decode_addOrder :
    decodeTransaction [0x10, 0x00, 0x00, 0x10, 0x82, 0x30, 0x02] = .addOrder 0x0000108230 2 := by decide
theorem test_decode_setFabric : decodeTransaction [0x22, 0x03, 0x80, 0x07, 0x08] = .setFabric 3 0x80 1800 := by decide
theorem test_decode_profileData : decodeTransaction [0x31, 0x02, 0x45, 0x04] = .profileData 2 [0x45, 0x04] := by decide
theorem test_decode_profileData_cut : decodeTransaction [0x31, 0x02, 0x45] = .transactionDropped := by decide
theorem test_decode_setInkCap : decodeTransaction [0x41, 0x01, 0x90] = .setInkCap 400 := by decide
theorem test_decode_assignStation : decodeTransaction [0x4A, 0x03, 0x03, 0x04] = .assignStation 3 3 4 := by decide
theorem test_decode_setOvertempLimit : decodeTransaction [0x62, 0x00, 0xDC] = .setOvertempLimit 220 := by decide
theorem test_decode_readBins : decodeTransaction [0x68] = .readBins := by decide
/-- SEEK GARMENT for ticket 000123457 is clocked as 73h 00h 00h 12h 34h 57h (chapter 11, worked frames). -/
theorem test_decode_seekGarment : decodeTransaction [0x73, 0x00, 0x00, 0x12, 0x34, 0x57] = .seekGarment 0x0000123457 := by
  decide
theorem test_decode_unknown : decodeTransaction [0x7E] = .unknownCommand 0x7E := by decide

/-! ## Frames of the station links (chapter 11, worked frames) -/

theorem test_frame_loadDone :
    decodeFrame 0 [0x7E, 0x11, 0x05, 0x00, 0x00, 0x12, 0x34, 0x57, 0x4D] =
      some (.loadDone 0 [0x00, 0x00, 0x12, 0x34, 0x57]) := by decide
theorem test_frame_loadDone_bad_check :
    decodeFrame 0 [0x7E, 0x11, 0x05, 0x00, 0x00, 0x12, 0x34, 0x57, 0x4C] = some (.badFrame 0 0x11) := by decide
theorem test_frame_ok_reply : replyFrame 0x11 .ok [] = [0x7E, 0x11, 0x00, 0x00, 0xEF] := by decide
theorem test_frame_bad_frame_reply : replyFrame 0x11 .badFrame [] = [0x7E, 0x11, 0x01, 0x00, 0xEE] := by decide
/-- Station requests of the other families: pretreat, press, print, unload, tunnel, pack (R182). -/
theorem test_frame_requests :
    decodeFrame 1 [0x7E, 0x20, 0x00, 0xE0] = some (.sheet 1 [])
    ∧ decodeFrame 2 [0x7E, 0x30, 0x00, 0xD0] = some (.pressStart 2 [])
    ∧ decodeFrame 3 [0x7E, 0x40, 0x00, 0xC0] = some (.jobFetch 3 [])
    ∧ decodeFrame 5 [0x7E, 0x50, 0x00, 0xB0] = some (.unloadQuery 5 [])
    ∧ decodeFrame 6 [0x7E, 0x60, 0x02, 0x00, 0xAC, 0xF2] = some (.tempReport 6 [0x00, 0xAC])
    ∧ decodeFrame 7 [0x7E, 0x72, 0x01, 0x00, 0x8D] = some (.returnPlaced 7 [0x00]) := by decide

/-! ## Tickets and order numbers -/

/-- Ticket 000123457: the check digit of 00012345 is 7 (R29; chapter 11, worked frames). -/
theorem test_ticket_check_digit : ticketSeq? 0x0000123457 = some 12345 ∧ ticketBytes (some 12345) = [0, 0, 0x12, 0x34, 0x57] := by
  decide
/-- The check digit of 00012346 is 4, so 000123465 is refused (chapter 6, the white print with a deviation). -/
theorem test_ticket_bad_check_digit : checkDigit 12346 = 4 ∧ ticketSeq? 0x0000123465 = none := by decide
/-- An order number sent as 00h 00h 1Ah 82h 30h is refused with RANGE (chapter 11, worked frames). -/
theorem test_order_number_half_byte :
    ∃ t, exec (.addOrder 0x00001A8230 0) State.reset = .next t ∧ t.host.answer = some ⟨7, .range, []⟩ := by
  refine ⟨_, rfl, ?_⟩; decide +kernel

/-! ## A cell to test in -/

def blank : BlankKey := { style := 0, colour := 0, size := 0 }
def plainArt : ArtSettings := { profile := 0, orient := {}, mask := 0, choke := 0, x := 0, y := 0 }
def line1 : Line := { key := blank, art := plainArt, ordered := 3, allocated := 1 }
def order1 (st : OrderState) : Order := { number := 1, cls := 1, state := st, lines := [line1] }
def links : Vector Link 8 :=
  #v[{ kind := .load }, { kind := .pretreat, stop := 2 }, { kind := .press, stop := 3 }, { kind := .printW, stop := 4 },
    { kind := .printC, stop := 5 }, { kind := .unload, stop := 8 }, { kind := .tunnel }, { kind := .pack }]
/-- The belt of chapter 7, one cure pass. -/
def belt : BeltGeometry :=
  { isSet := true, belt := 96, entry := 16, heat := 60, exit := 20, segments := 4, lengths := #v[15, 15, 15, 15], gap := 3 }
/-- The cure curve of chapter 7, one cure pass. -/
def curve : List CurvePoint :=
  [{ temp := 120, rate := 0 }, { temp := 150, rate := 20 }, { temp := 165, rate := 40 }, { temp := 180, rate := 60 },
    { temp := 200, rate := 70 }]
def profile0 : Profile :=
  { state := .ready, width := 3, height := 2, format := .sixBit, cols := 3, rows := 2, chain := [0], fill := 6 }
/-- A line in RUN with no garment: order 1 OPEN, a READY profile in slot 0, a valid configuration. -/
def cell : State :=
  { mode := .run
    book := { orders := [{ order1 .opened with lines := [{ line1 with allocated := 0 }] }], admission := [1] }
    art := { slots := (Vector.replicate 48 {}).setIfInBounds 0 profile0 }
    carousel := { platenCount := 10 }
    station := { links }
    tunnel := { geometry := belt, curve, stale := some 0, stall := some 0, rates := #v[49, 57, 57, 33] } }
def claim1 : Claim :=
  { slot := 0, bank := 0, startCol := 0, startRow := 0, cols := 3, rows := 2, mask := 0, choke := 0, factor := 128 }
def shirt (place : Place) : Garment :=
  { seq := 5, key := blank, bound := some (1, 0), place, required := ⟨true, true, true, true⟩
    figures := { rows := 2, cols := 3, orient := {}, profile := 0, x := 0, y := 0, wsum := 810, usum := 470, dsum := 828
                 capped := 2, passes := 2, cureDemand := 1894 }
    claim := some claim1, length := 11 }
/-- The cell with one garment, its line and its claim counted. -/
def holding (g : Garment) : State :=
  { cell with
    book := { orders := [order1 .opened], admission := [1] }
    garmentTable := { garments := [g], generator := 6 }
    art := { cell.art with
      slots := (Vector.replicate 48 {}).setIfInBounds 0 { profile0 with useCount := g.claim.elim 0 fun _ => 1 } }
    recipes := { banks := (Vector.replicate 4 {}).setIfInBounds 0 { useCount := g.claim.elim 0 fun _ => 1 } } }
/-- The garment on platen `n` at stop `n`, with the stop in the given state. -/
def atStop (n : Nat) (v : Service) (g : Garment) : State :=
  { holding g with
    carousel := { platenCount := 10
                  platens := (Vector.replicate 16 {}).setIfInBounds n { garment := some 5 }
                  stops := (Vector.replicate 16 {}).setIfInBounds n { service := v } } }
def onBelt (g : Garment) : State :=
  { holding g with tunnel := { cell.tunnel with belt := [5] } }
def atExit (g : Garment) : State := { holding g with pack := { exitList := [5] } }
/-- The cell with one order in the given state, the cursors on it and on its line. -/
def book (st : OrderState) : State :=
  { cell with
    book := { orders := [order1 st], admission := if st = .draft then [] else [1] }
    host := { orderCursor := some 1, lineCursor := some 0 } }
def ticket5 : List Byte := ticketBytes (some 5)

/-! ## The worked cases of chapter 4 -/

def darkBank : Bank :=
  let e := (Vector.replicate 64 {}).setIfInBounds 4 { live := { w := 200, u := 120, p := 180 } }
  let e := e.setIfInBounds 5 { live := { w := 255, u := 200, p := 220 } }
  { entries := e.setIfInBounds 7 { live := { w := 100, u := 60, p := 90 } } }
def darkBlock : Vector Code 64 :=
  let v : Vector Code 64 := ((Vector.replicate 64 0).setIfInBounds 0 4).setIfInBounds 1 5
  ((v.setIfInBounds 3 4).setIfInBounds 4 6).setIfInBounds 5 1
/-- The dark shirt: window codes (4, 5, 0) and (4, 6, 1), bank 2, F = 160, base cure 1800, I = 400, kW = 96, kU = 40. -/
def darkCell : State :=
  { cell with
    art := { cell.art with
      cells := (Vector.replicate 384 (Vector.replicate 64 0)).setIfInBounds 0 darkBlock }
    recipes := { banks := (Vector.replicate 4 {}).setIfInBounds 2 darkBank }
    garmentTable := { colours := .replicate 256 .dark, fabrics := .replicate 8 { factor := 160, baseCure := 1800 } }
    sheet := { inkCap := 400, kW := 96, kU := 40 } }
def darkArt : ArtSettings := { plainArt with mask := 1, choke := 10 }

theorem test_sheet_dark_shirt :
    (darkCell.computeSheet darkArt blank).figures =
      { rows := 2, cols := 3, orient := {}, profile := 0, x := 0, y := 0, wsum := 810, usum := 470, dsum := 828
        capped := 2, passes := 2, cureDemand := 1894 }
    ∧ (darkCell.computeSheet darkArt blank).route = ⟨true, true, true, true⟩ := by decide +kernel
theorem test_sheet_economy :
    let f := ({ darkCell with sheet := { darkCell.sheet with economy := true } }.computeSheet darkArt blank).figures
    f.wsum = 736 ∧ f.usum = 480 ∧ f.dsum = 828 ∧ f.capped = 2 ∧ f.passes = 1 ∧ f.cureDemand = 1887 := by decide +kernel
theorem test_sheet_dose_rows_exchange_mirrorY :
    let sheet := darkCell.computeSheet { darkArt with orient := { exchange := true, mirrorY := true } } blank
    sheet.figures.rows = 3 ∧ sheet.figures.cols = 2
    ∧ (List.range 3).map (darkCell.doseRow sheet.claim sheet.figures) = [[255, 255], [103, 215], [0, 0]] := by
  decide +kernel
theorem test_sheet_dose_row_mirrorX :
    let sheet := darkCell.computeSheet { darkArt with orient := { mirrorX := true } } blank
    darkCell.doseRow sheet.claim sheet.figures 0 = [0, 215, 255] := by decide +kernel

/-! ## Chapters 6 and 7 -/

/-- Reported 120 units deviate from the expected 1620 at tolerance 15, and 110 do not. -/
theorem test_deviation : deviates 1920 1620 15 = true ∧ deviates 1760 1620 15 = false ∧ deviates 480 470 15 = false := by
  decide
theorem test_curve_rates :
    curveRate curve 172 = 49 ∧ curveRate curve 178 = 57 ∧ curveRate curve 160 = 33 ∧ curveRate curve 119 = 0
    ∧ curveRate curve 200 = 70 ∧ curveRate curve 150 = 20 := by decide
theorem test_belt_segments :
    belt.segmentAt 15 = none ∧ belt.segmentAt 16 = some 0 ∧ belt.segmentAt 45 = some 1 ∧ belt.segmentAt 75 = some 3
    ∧ belt.segmentAt 76 = none := by decide

/-! ## Witnesses: states and operands that meet the hypotheses of the obligations, clause by clause -/

theorem witness_refused_host_command :
    hostBytes (.seekLine 0) = some [0x72, 0x00]
    ∧ ∃ t, exec (.seekLine 0) cell = .next t ∧ t.host.answer = some ⟨2, .noCursor, []⟩ ∧ Status.noCursor ≠ .ok :=
  ⟨rfl, _, rfl, by decide +kernel⟩

theorem witness_host_transactions :
    WellFormed (.seekGarment 0x0000123457) = true
    ∧ hostBytes (.seekGarment 0x0000123457) = some [0x73, 0x00, 0x00, 0x12, 0x34, 0x57]
    ∧ WellFormed (.profileData 64 (List.replicate 64 0)) = true ∧ WellFormed (.setCureCurve 0 []) = true
    ∧ WellFormed (.profileData 0 []) = true ∧ hostBytes (.profileData 0 []) = some [0x31, 0x00]
    ∧ 0 < 6 ∧ 5 < 6 := by decide

theorem witness_station_frames :
    WellFormed (.loadSkip 0 []) = true ∧ frameBytes (.loadSkip 0 []) = some (0, [0x7E, 0x12, 0x00, 0xEE])
    ∧ WellFormed (.unknownRequestCode 7 0xFF (List.replicate 40 0x7E)) = true
    ∧ (frameBytes (.unknownRequestCode 7 0xFF (List.replicate 40 0x7E))).isSome = true
    ∧ startByte ∉ [(0x00 : Byte), 0x7D, 0x7F] := by decide

def unassigned1 : State := cell.modLink 1 fun k => { k with kind := .unassigned }
def bypassed1 : State := cell.modLink 1 fun k => { k with bypassed := true }
theorem witness_frame_checks :
    (State.reset.answering 0 = false ∧ State.reset.mode = .setup)
    ∧ (unassigned1.answering 1 = false ∧ unassigned1.mode ≠ .setup ∧ (unassigned1.link 1).kind = .unassigned)
    ∧ (bypassed1.answering 1 = false ∧ (bypassed1.link 1).kind ≠ .unassigned ∧ (bypassed1.link 1).bypassed = true)
    ∧ (cell.answering 0 = false ∧ (cell.link 0).bypassed = false ∧ servedBy .sheet (cell.link 0).kind = false)
    ∧ (servedBy .sheet (cell.link 1).kind = true ∧ [(0 : Byte)].length ∉ payloadLengths .sheet)
    ∧ (servedBy .blankScan (cell.link 0).kind = true ∧ [(0 : Byte), 0, 0].length ∈ payloadLengths .blankScan
      ∧ { cell with mode := .hold }.mode = .hold ∧ { cell with mode := .drain }.mode = .drain)
    ∧ (bearsTicket .loadDone = true ∧ payloadTicket [0, 0, 0, 0, 1] = none
      ∧ [(0 : Byte), 0, 0, 0, 1].length ∈ payloadLengths .loadDone)
    ∧ Request.ofCode 0x13 = none := by decide +kernel

def sending0 : State := cell.reply 0 0x12 .ok []
def collecting0 (gap : Nat) : State := cell.modLink 0 fun k => { k with receiver := .collecting gap }
theorem witness_receiver :
    (40 < (41 : Byte).toNat ∧ (40 : Byte).toNat ≤ 40 ∧ (List.replicate 40 (0 : Byte)).length = (40 : Byte).toNat
      ∧ ([] : List Byte).length = (0 : Byte).toNat)
    ∧ cell.answering 0 = false ∧ sending0.answering 0 = true ∧ (cell.link 0).receiver = .hunting
    ∧ ((collecting0 0).link 0).receiver = .collecting 0 ∧ ((collecting0 10).link 0).receiver = .collecting 10 := by
  decide +kernel

/-! ### A reachable kind of state that meets every invariant: a garment in service at stop 2 -/

def inService2 : State := { atStop 2 .inService (shirt (.onPlaten 2)) with pending := [.index] }

theorem witness_settings : inService2.SettingsInRange where
  platenCount := by decide
  origin := by decide
  dwell := by decide
  dwellLimit := by decide
  lapLimit := by decide
  stops := by decide +kernel
  noStop := by decide +kernel
  inkTolerance := by decide
  inkCap := by decide
  cureCoefficients := by decide
  geometry := by decide +kernel
  curve := by decide +kernel
  curveRates := by decide +kernel
  temps := by decide +kernel
  rates := by decide +kernel
  overtempLimit := by decide
  staleLimit := by decide
  stallLimit := by decide
  stale := fun n h => by cases h; decide
  stall := fun n h => by cases h; decide
  timebase := by decide
  styles := fun n => by
    have h : inService2.style n = {} := by
      show (Vector.replicate 256 ({} : StyleEntry))[n]?.getD {} = {}
      rw [Vector.getElem?_replicate]; split <;> rfl
    rw [h]; decide
  fabrics := fun n => by
    have h : inService2.fabric n = {} := by
      show (Vector.replicate 8 ({} : FabricEntry))[n]?.getD {} = {}
      rw [Vector.getElem?_replicate]; split <;> rfl
    rw [h]; decide

theorem witness_pool : inService2.PoolForm where
  size := by decide
  tickets := by decide
  range := by decide
  generator := by decide
  setup := by decide

theorem witness_book : inService2.BookForm where
  numbers := by decide
  numberRange := by decide
  orders := by decide
  lines := by decide
  linesPerOrder := by decide
  classes := by decide
  totals := by decide
  ordered := by decide
  ranges := by decide
  lined := by decide
  admitted := by decide
  admission := fun n => by
    show n ∈ [1] ↔ ∃ o ∈ [order1 .opened], o.number = n ∧ o.state ≠ .draft
    simp [order1, eq_comm]

theorem witness_use_counts : inService2.UseCountsRight where
  slots := by decide +kernel
  banks := by decide +kernel
  marks := by decide +kernel

theorem inService2_platens : ∀ p, p < 16 → (inService2.platen p).garment = if p = 2 then some 5 else none := by
  decide +kernel

theorem witness_carousel : inService2.CarouselForm where
  valid := by decide +kernel
  platens := fun p seq h => by
    by_cases hp : p < 16
    · rw [inService2_platens p hp] at h
      split at h
      · cases h; subst p; exact ⟨shirt (.onPlaten 2), by decide +kernel, rfl⟩
      · cases h
    · have : (inService2.platen p) = {} := by
        show (_ : Vector PlatenEntry 16)[p]?.getD {} = {}
        rw [Vector.getElem?_eq_none (by omega)]; rfl
      rw [this] at h; cases h
  places := fun g hg p h => by
    have : g = shirt (.onPlaten 2) := by simpa [inService2, atStop, holding, State.garments] using hg
    subst this; cases h; decide +kernel
  matched := fun g hg p h => by
    have : g = shirt (.onPlaten 2) := by simpa [inService2, atStop, holding, State.garments] using hg
    subst this; cases h
  presented := fun r h => by cases h

theorem witness_accounts : inService2.Accounts where
  allocated := fun o ho i l h => by
    have : o = order1 .opened := by simpa [inService2, atStop, holding] using ho
    subst this
    cases i with
    | zero => cases h; decide +kernel
    | succ n => cases h
  bound := fun g hg _ => by
    have : g = shirt (.onPlaten 2) := by simpa [inService2, atStop, holding, State.garments] using hg
    subst this
    exact ⟨(1, 0), order1 .opened, rfl, by decide +kernel, by decide, by decide⟩
  matchedActive := by decide +kernel
  complete := by decide +kernel
  cancelled := by decide +kernel
  rejected := fun r g h => by cases h

theorem witness_step : ∃ t, step inService2 = .next t := ⟨_, rfl⟩

/-- A garment of the belt in the middle of the heat zone. -/
def inHeatZone : State := onBelt (shirt (.onBelt 30))

/-- A claim-free garment at the exit, packed and cured, and the state in which it was scanned with the given verdict, its
order holding bin 4 with 98 garments in it. -/
def packed : Garment := { shirt .atExit with done := ⟨true, true, true, true⟩, claim := none, cure := 1894 }
def packing (g : Garment) (o : Order) : State := { atExit g with book := { orders := [o], admission := [1] } }
def presentingOf (o : Order) (g : Garment) (r : Presented) : State :=
  let s := packing g { o with bin := some 4 }
  { s with pack := { s.pack with
      presented := some r, bins := (Vector.replicate 32 none).setIfInBounds 4 (some { order := 1, count := 98 }) } }
def presenting : Garment → Presented → State := presentingOf (order1 .opened)
def packScanned : State := presenting packed ⟨5, .pack, none, some 4⟩

theorem noPlaten (s : State) (h : s.carousel.platens = .replicate 16 {}) (p : Nat) : (s.platen p).garment = none := by
  unfold State.platen; rw [h, Vector.getElem?_replicate]; split <;> rfl

theorem witness_list_settings : inHeatZone.SettingsInRange :=
  { witness_settings with
    platenCount := by decide, origin := by decide, dwell := by decide, dwellLimit := by decide, lapLimit := by decide }
theorem witness_list_pool : inHeatZone.PoolForm where
  size := by decide
  tickets := by decide
  range := by decide
  generator := by decide
  setup := by decide
theorem inHeatZone_only (g : Garment) (h : g ∈ inHeatZone.garments) : g = shirt (.onBelt 30) := by
  simpa [inHeatZone, onBelt, holding, State.garments] using h
theorem inHeatZone_garment? (q : Nat) (g : Garment) (h : inHeatZone.garment? q = some g) : q = 5 ∧ g = shirt (.onBelt 30) := by
  have hg := inHeatZone_only g (State.garment?_mem _ h)
  exact ⟨by rw [← State.garment?_seq _ h, hg]; rfl, hg⟩
theorem witness_list_carousel : inHeatZone.CarouselForm where
  valid := by decide +kernel
  platens := fun p seq h => by rw [noPlaten _ rfl] at h; cases h
  places := fun g hg p h => by rw [inHeatZone_only g hg] at h; cases h
  matched := fun g hg p h => by rw [inHeatZone_only g hg] at h; cases h
  presented := fun r h => by cases h
theorem witness_list : inHeatZone.ListForm where
  belt := by
    refine ⟨by decide, fun seq => ⟨fun h => ?_, fun ⟨g, h, _⟩ => ?_⟩⟩
    · have : seq = 5 := by simpa [inHeatZone, onBelt] using h
      subst this; exact ⟨shirt (.onBelt 30), by decide +kernel, 30, rfl⟩
    · rw [(inHeatZone_garment? seq g h).1]; decide
  exitList := ⟨by decide, fun seq => ⟨fun h => (by cases h), fun ⟨g, h, hp⟩ => by
    rw [(inHeatZone_garment? seq g h).2] at hp; cases hp⟩⟩
  returnList := ⟨by decide, fun seq => ⟨fun h => (by cases h), fun ⟨g, h, hp⟩ => by
    rw [(inHeatZone_garment? seq g h).2] at hp; cases hp⟩⟩
  tails := List.pairwise_singleton _ _
  onBelt := fun g hg tail h => by rw [inHeatZone_only g hg] at h; cases h; decide

theorem packScanned_order (o : Order) (h : o ∈ packScanned.book.orders) : o = { order1 .opened with bin := some 4 } := by
  simpa [packScanned, presenting, presentingOf, packing] using h
theorem packScanned_only (g : Garment) (h : g ∈ packScanned.garments) : g = packed := by
  simpa [packScanned, presenting, presentingOf, packing, atExit, holding, State.garments] using h
theorem packScanned_bins (b : Nat) : packScanned.bin b = if b = 4 then some { order := 1, count := 98 } else none := by
  by_cases hb : b < 32
  · exact (by decide +kernel : ∀ b, b < 32 → packScanned.bin b = if b = 4 then some { order := 1, count := 98 } else none) b hb
  · have : packScanned.bin b = none := by
      show (_ : Vector (Option BinHold) 32)[b]?.getD none = none
      rw [Vector.getElem?_eq_none (by omega)]; rfl
    rw [this, if_neg (by omega)]
theorem witness_bin_pool : packScanned.PoolForm where
  size := by decide
  tickets := by decide
  range := by decide
  generator := by decide
  setup := by decide
theorem witness_bin_book : packScanned.BookForm where
  numbers := by decide
  numberRange := by decide
  orders := by decide
  lines := by decide
  linesPerOrder := by decide
  classes := by decide
  totals := by decide
  ordered := by decide
  ranges := by decide
  lined := by decide
  admitted := by decide
  admission := fun n => by
    show n ∈ [1] ↔ ∃ o ∈ [{ order1 .opened with bin := some 4 }], o.number = n ∧ o.state ≠ .draft
    simp [order1, eq_comm]
theorem witness_bin_accounts : packScanned.Accounts where
  allocated := fun o ho i l h => by
    rw [packScanned_order o ho] at h ⊢
    cases i with
    | zero => cases h; decide +kernel
    | succ n => cases h
  bound := fun g hg _ => by
    rw [packScanned_only g hg]
    exact ⟨(1, 0), { order1 .opened with bin := some 4 }, rfl, by decide +kernel, by decide, by decide⟩
  matchedActive := by decide +kernel
  complete := by decide +kernel
  cancelled := by decide +kernel
  rejected := fun r g h _ hv => by cases h; cases hv
theorem witness_bin : packScanned.BinForm where
  held := fun b h hb => by
    rw [packScanned_bins] at hb
    split at hb
    · cases hb; subst b; exact ⟨by decide, { order1 .opened with bin := some 4 }, by decide +kernel, rfl⟩
    · cases hb
  named := fun o ho b hb => by
    rw [packScanned_order o ho] at hb ⊢
    cases hb
    exact ⟨{ order := 1, count := 98 }, by rw [packScanned_bins]; rfl, rfl⟩
  cancelled := fun o ho h => by rw [packScanned_order o ho] at h; cases h

/-- Slot 0 READY with block 0, in use by one garment in service at stop 2; the recipe of code 0 gives each of its six cells
a dose of 64. -/
def frozenSlot : Profile := { profile0 with useCount := 1 }
def frozenShirt : Garment := { shirt (.onPlaten 2) with figures := { (shirt .atExit).figures with dsum := 384 } }
def frozenBank : Bank :=
  { entries := (Vector.replicate 64 {}).setIfInBounds 0 { live := { p := 64 }, pending := some { p := 9 } }, useCount := 1 }
def frozen : State :=
  { atStop 2 .inService frozenShirt with
    art := { slots := (Vector.replicate 48 {}).setIfInBounds 0 frozenSlot
             blockMap := (Vector.replicate 384 none).setIfInBounds 0 (some 0) }
    recipes := { banks := (Vector.replicate 4 {}).setIfInBounds 0 frozenBank } }
theorem frozen_slot (n : Nat) : frozen.slot n = if n = 0 then frozenSlot else {} := by
  by_cases hn : n < 48
  · exact (by decide +kernel : ∀ n, n < 48 → frozen.slot n = if n = 0 then frozenSlot else {}) n hn
  · have : frozen.slot n = {} := by
      show (_ : Vector Profile 48)[n]?.getD {} = {}
      rw [Vector.getElem?_eq_none (by omega)]; rfl
    rw [this, if_neg (by omega)]
theorem frozen_owner (b : Nat) : frozen.art.owner b = if b = 0 then some 0 else none := by
  show ((Vector.replicate 384 none).setIfInBounds 0 (some 0))[b]?.getD none = _
  rw [Vector.getElem?_setIfInBounds]
  by_cases hb : b = 0
  · subst b; rfl
  · rw [if_neg (Ne.symm hb), if_neg hb, Vector.getElem?_replicate]; split <;> rfl
theorem frozen_only (g : Garment) (h : g ∈ frozen.garments) : g = frozenShirt := by
  simpa [frozen, atStop, holding, State.garments] using h
theorem witness_frozen_pool : frozen.PoolForm where
  size := by decide
  tickets := by decide
  range := by decide
  generator := by decide
  setup := by decide
theorem witness_frozen_use : frozen.UseCountsRight where
  slots := by decide +kernel
  banks := by decide +kernel
  marks := by decide +kernel
theorem witness_store : frozen.StoreForm where
  chains := fun n _ => by
    refine ⟨?_, fun b => ?_⟩
    · rw [frozen_slot]; split <;> decide
    · rw [frozen_slot, frozen_owner]
      by_cases hn : n = 0 <;> by_cases hb : b = 0 <;> simp [hn, hb, frozenSlot, profile0, eq_comm]
  owners := fun b n h => by rw [frozen_owner] at h; split at h <;> cases h; decide
  loading := fun n m h => by rw [frozen_slot] at h; split at h <;> cases h
  canvas := fun n h => by
    rw [frozen_slot] at h ⊢
    by_cases hn : n = 0
    · rw [if_pos hn]; decide
    · rw [if_neg hn] at h; exact absurd rfl h
  window := fun n h => by
    rw [frozen_slot] at h ⊢
    by_cases hn : n = 0
    · rw [if_pos hn]; decide
    · rw [if_neg hn] at h; exact absurd rfl h
  ready := fun n h => by
    rw [frozen_slot] at h ⊢
    by_cases hn : n = 0
    · rw [if_pos hn]; decide
    · rw [if_neg hn] at h; cases h
  empty := fun n h => by
    rw [frozen_slot] at h ⊢
    by_cases hn : n = 0
    · rw [if_pos hn] at h; cases h
    · rw [if_neg hn]
  inUse := fun n h => by
    rw [frozen_slot] at h ⊢
    by_cases hn : n = 0
    · rw [if_pos hn]; rfl
    · rw [if_neg hn] at h; exact absurd h (by decide)
theorem witness_frozen : frozen.SheetsFrozen where
  slots := fun g hg c h => by rw [frozen_only g hg] at h; cases h; decide
  doses := fun g hg c h => by rw [frozen_only g hg] at h ⊢; cases h; decide +kernel
theorem witness_frozen_claim : frozenShirt ∈ frozen.garments ∧ frozenShirt.claim = some claim1 := by decide +kernel

/-! ### Line modes and time -/

def setupCell : State := { cell with mode := .setup }
/-- A cell in SETUP that fails START's condition with the given number and no lower one. -/
def failing : Nat → State
  | 1 => setupCell.modLink 0 fun k => { k with kind := .unassigned }
  | 2 => setupCell.modLink 2 fun k => { k with kind := .pretreat }
  | 3 => setupCell.modLink 0 fun k => { k with stop := 1 }
  | 4 => setupCell.modLink 5 fun k => { k with stop := 10 }
  | 5 => setupCell.modLink 2 fun k => { k with stop := 1 }
  | 6 => { setupCell with tunnel := { cell.tunnel with geometry := {} } }
  | _ => { setupCell with tunnel := { cell.tunnel with curve := [{ temp := 120, rate := 0 }] } }
theorem witness_start_first_failures :
    ¬ (failing 1).StartCondition 1
    ∧ ((failing 2).StartCondition 1 ∧ ¬ (failing 2).StartCondition 2)
    ∧ ((failing 3).StartCondition 1 ∧ (failing 3).StartCondition 2 ∧ ¬ (failing 3).StartCondition 3) := by
  simp only [State.StartCondition]; decide +kernel
theorem witness_start_later_failures :
    ((failing 4).StartCondition 1 ∧ (failing 4).StartCondition 2 ∧ (failing 4).StartCondition 3
      ∧ ¬ (failing 4).StartCondition 4)
    ∧ ((failing 5).StartCondition 1 ∧ (failing 5).StartCondition 2 ∧ (failing 5).StartCondition 3
      ∧ (failing 5).StartCondition 4 ∧ ¬ (failing 5).StartCondition 5)
    ∧ ((failing 6).StartCondition 1 ∧ (failing 6).StartCondition 2 ∧ (failing 6).StartCondition 3
      ∧ (failing 6).StartCondition 4 ∧ (failing 6).StartCondition 5 ∧ ¬ (failing 6).StartCondition 6)
    ∧ ((failing 7).StartCondition 1 ∧ (failing 7).StartCondition 2 ∧ (failing 7).StartCondition 3
      ∧ (failing 7).StartCondition 4 ∧ (failing 7).StartCondition 5 ∧ (failing 7).StartCondition 6
      ∧ ¬ (failing 7).StartCondition 7) := by
  simp only [State.StartCondition]
  repeat' apply And.intro
  all_goals decide +kernel
theorem witness_start_taken :
    setupCell.mode = .setup ∧ setupCell.StartCondition 1 ∧ setupCell.StartCondition 2 ∧ setupCell.StartCondition 3
    ∧ setupCell.StartCondition 4 ∧ setupCell.StartCondition 5 ∧ setupCell.StartCondition 6 ∧ setupCell.StartCondition 7
    ∧ setupCell.configFailure = none
    ∧ setupCell.service 0 = .none ∧ setupCell.stationAt 0 = some { kind := .load } := by
  simp only [State.StartCondition]; decide +kernel

def mode (m : LineMode) (s : State) : State := { s with mode := m }
/-- A garment waits at stop 3, so that INDEX PERMIT is low, and the dwell timer has reached its limit. -/
def lateHold : State :=
  let s := mode .hold (atStop 3 .due (shirt (.onPlaten 3)))
  { s with carousel := { s.carousel with dwell := 60000 } }
def loadDue : State :=
  { cell with carousel := { cell.carousel with stops := (Vector.replicate 16 {}).setIfInBounds 0 { service := .due } } }
theorem witness_mode_commands :
    (loadDue.mode = .run ∧ loadDue.stationAt 0 = some { kind := .load } ∧ loadDue.service 0 = .due)
    ∧ ((mode .hold cell).mode = .hold ∧ (mode .hold cell).service 0 = .none
      ∧ ((mode .hold cell).platen ((mode .hold cell).platenAt 0)).garment = none
      ∧ ((mode .hold cell).platen ((mode .hold cell).platenAt 0)).blocked = false)
    ∧ (∃ t, exec .resume lateHold = .next t ∧ t.indexPermit = false
      ∧ lateHold.carousel.dwellLimit * 1000 ≤ lateHold.carousel.dwell)
    ∧ ((loadDue.mode = .run ∨ loadDue.mode = .hold) ∧ (atStop 3 .due (shirt (.onPlaten 3))).garments ≠ [])
    ∧ (mode .drain cell).mode = .drain ∧ setupCell.mode = .setup := by
  refine ⟨by decide +kernel, by decide +kernel, ⟨_, rfl, by decide +kernel⟩, by decide +kernel, by decide, by decide⟩
theorem witness_drain_end :
    ((mode .drain cell).mode = .drain ∧ (mode .drain cell).garments = [])
    ∧ ((mode .drain inService2).mode = .drain ∧ (mode .drain inService2).garments ≠ [])
    ∧ (cell.mode = .run ∧ cell.garments = []) := by decide +kernel

theorem witness_attention : twoValued 0 = some false ∧ twoValued 1 = some true ∧ (2 : Byte) ≠ 0 ∧ (2 : Byte) ≠ 1 := by
  decide
theorem witness_lines_out :
    cell.attention.enables.getLsbD Flag.stray.number = false
    ∧ Instr.resetPin ∈ [Instr.powerOn, .resetPin] := by decide +kernel

theorem witness_time :
    cell.pending = []
    ∧ ((atStop 3 .due (shirt (.onPlaten 3))).mode = .run ∧ (atStop 3 .due (shirt (.onPlaten 3))).indexPermit = false
      ∧ (atStop 3 .due (shirt (.onPlaten 3))).carousel.late = false
      ∧ lateHold.carousel.dwell ≤ lateHold.carousel.dwellLimit * 1000)
    ∧ (setupCell.mode = .setup ∧ cell.indexPermit = true)
    ∧ (cell.tunnel.stale = some 0 ∧ cell.tunnel.staleMarker = false ∧ 0 ≤ cell.tunnel.staleLimit * 1000
      ∧ cell.tunnel.staleLimit ≤ 30)
    ∧ State.reset.tunnel.stale = none
    ∧ (inHeatZone.tunnel.stall = some 0 ∧ inHeatZone.tunnel.stallMarker = false ∧ inHeatZone.tunnel.stallLimit ≤ 120
      ∧ ∃ g ∈ inHeatZone.garments, inHeatZone.inHeat g = true)
    ∧ State.reset.tunnel.stall = none ∧ ∀ g ∈ cell.garments, cell.inHeat g = false := by decide +kernel
/-- The millisecond in which a stall begins, and one in which none does; a frame in collection, and a link that hunts. -/
def stallComing : State := { inHeatZone with tunnel := { inHeatZone.tunnel with stall := some 19999 } }
theorem witness_time_stall :
    (stallComing.pending = [] ∧ stallComing.tunnel.stallMarker = false
      ∧ ∃ t, step stallComing = .next t ∧ t.tunnel.stallMarker = true)
    ∧ ((collecting0 10).pending = [] ∧ ((collecting0 10).link 0).receiver = .collecting 10)
    ∧ ∀ gap, (cell.link 0).receiver ≠ .collecting gap := by
  refine ⟨⟨by decide, by decide, _, rfl, by decide +kernel⟩, by decide +kernel, fun gap h => ?_⟩
  have : (cell.link 0).receiver = .hunting := by decide +kernel
  rw [this] at h; cases h

/-! ### Order book -/

theorem witness_addOrder :
    (9 < (0x00001A8230 : Bcd5).toNat / 16 ^ 4 % 16) ∧ (∀ i, i < 10 → (0x9999999999 : Bcd5).toNat / 16 ^ i % 16 ≤ 9)
    ∧ (∀ i, i < 10 → (0 : Bcd5).toNat / 16 ^ i % 16 ≤ 9) ∧ 3 < (4 : Byte).toNat ∧ (3 : Byte).toNat ≤ 3
    ∧ (∃ o ∈ cell.book.orders, o.number = 1) ∧ (∀ o ∈ cell.book.orders, o.number ≠ 9999999999)
    ∧ cell.book.orders.length < 96
    ∧ 96 ≤ { cell with book := { orders := List.replicate 96 (order1 .opened) } }.book.orders.length := by
  refine ⟨by decide, by decide, by decide, by decide, by decide, by decide, by decide, by decide, by decide +kernel⟩

/-- An order of 16 lines, the most it can have. -/
def fullOrder : Order := { order1 .draft with lines := List.replicate 16 { line1 with ordered := 1, allocated := 0 } }
def fullBook : State := { book .draft with book := { orders := [fullOrder], admission := [] } }
theorem witness_addLine :
    cell.orderAtCursor = none ∧ (book .draft).orderAtCursor = some (order1 .draft)
    ∧ (book .opened).orderAtCursor = some (order1 .opened) ∧ (order1 .opened).state ≠ .draft
    ∧ (15 < (16 : Byte).toNat ∧ 47 < (48 : Byte).toNat ∧ 63 < (64 : Byte).toNat ∧ 99 < (100 : Byte).toNat
      ∧ 99 < (order1 .draft).total + (97 : Byte).toNat)
    ∧ ((15 : Byte).toNat ≤ 15 ∧ (47 : Byte).toNat ≤ 47 ∧ (63 : Byte).toNat ≤ 63 ∧ (96 : Byte) ≠ 0
      ∧ (order1 .draft).total + (96 : Byte).toNat ≤ 99)
    ∧ ((order1 .draft).lines.length < 16 ∧ (book .draft).linesInUse < 384)
    ∧ (fullBook.orderAtCursor = some fullOrder ∧ 16 ≤ fullOrder.lines.length ∧ fullOrder.total + 1 ≤ 99) := by
  decide +kernel

theorem witness_draft_commands :
    cell.orderAtCursor = none
    ∧ ((book .draft).orderAtCursor = some (order1 .draft) ∧ (book .draft).host.lineCursor = some 0
      ∧ 0 < (order1 .draft).lines.length ∧ (order1 .draft).lines ≠ [])
    ∧ { book .draft with host := { orderCursor := some 1 } }.host.lineCursor = none
    ∧ ((book .held).orderAtCursor = some (order1 .held) ∧ (order1 .held).state ≠ .draft) := by decide +kernel

theorem witness_line_edits :
    cell.orderAtCursor = none
    ∧ (∀ st ∈ [OrderState.draft, .opened, .held, .cancelling, .cancelled, .complete],
        (book st).orderAtCursor = some (order1 st) ∧ (book st).host.lineCursor = some 0
        ∧ (order1 st).lines[0]? = some line1)
    ∧ ((0 : Byte).toNat < line1.allocated + line1.finished ∧ line1.allocated + line1.finished ≤ (1 : Byte).toNat
      ∧ (99 : Byte).toNat ≤ 99)
    ∧ ¬ (∀ k ∈ [{ line1 with ordered := 1 }], k.finished = k.ordered) ∧ 47 < (48 : Byte).toNat ∧ 63 < (64 : Byte).toNat := by
  decide +kernel

theorem witness_order_commands :
    cell.orderAtCursor = none ∧ (3 : Byte).toNat ≤ 3 ∧ 3 < (4 : Byte).toNat
    ∧ ∀ st ∈ [OrderState.draft, .opened, .held, .cancelling, .cancelled, .complete],
        (book st).orderAtCursor = some (order1 st) ∧ (order1 st).state = st := by decide +kernel

/-- The order at the cursor with a garment on the belt, which the reassignment pass does not reach, and without one. -/
theorem witness_cancelOrder :
    (∃ t o', exec .cancelOrder (book .opened) = .next t ∧ t.order? 1 = some o' ∧ o'.allocatedSum ≠ 0)
    ∧ ∃ t o', exec .cancelOrder { cell with host := { orderCursor := some 1 } } = .next t ∧ t.order? 1 = some o'
      ∧ o'.allocatedSum = 0 := by
  refine ⟨⟨_, { order1 .opened with state := .cancelling }, rfl, ?_⟩,
    ⟨_, { order1 .opened with state := .cancelled, lines := [{ line1 with allocated := 0 }] }, rfl, ?_⟩⟩ <;> decide +kernel

/-- Order 1 holds bin 4 with two garments in it. -/
def withBin (st : OrderState) (lines : List Line) : State :=
  { cell with
    book := { orders := [{ order1 st with lines := lines, bin := some 4 }], admission := [1] }
    pack := { bins := (Vector.replicate 32 none).setIfInBounds 4 (some { order := 1, count := 2 }) }
    host := { orderCursor := some 1, lineCursor := some 0, garmentCursor := some 5 } }
/-- CANCEL ORDER by each state of the order, with a bin that two garments lie in. -/
theorem witness_cancelOrder_states :
    cell.orderAtCursor = none
    ∧ (∀ st ∈ [OrderState.draft, .opened, .held, .cancelling, .cancelled, .complete],
        (withBin st [line1]).orderAtCursor = some { order1 st with lines := [line1], bin := some 4 })
    ∧ (withBin .draft [line1]).bin 4 = some { order := 1, count := 2 } ∧ (withBin .draft [line1]).bin 5 = none := by
  decide +kernel

/-- The order of the garment at stop 3 is CANCELLING; order 2 has a line for the same blank, or is HELD and has none. -/
def order2 (st : OrderState) : Order := { order1 st with number := 2, lines := [{ line1 with allocated := 0 }] }
def cancelling (st : OrderState) : State :=
  { atStop 3 .due (shirt (.onPlaten 3)) with book := { orders := [order1 .cancelling, order2 st], admission := [1, 2] } }
theorem cancelling_only (g : Garment) (h : g ∈ (cancelling .opened).garments) : g = shirt (.onPlaten 3) := by
  simpa [cancelling, atStop, holding, State.garments] using h
theorem witness_reassign :
    (3, 5) ∈ (cancelling .opened).candidates 1 ∧ (cancelling .opened).candidates 1 = [] ++ (3, 5) :: []
    ∧ (cancelling .opened).garmentAt 3 = some (shirt (.onPlaten 3)) ∧ (cancelling .opened).service 3 ≠ .inService
    ∧ (cancelling .opened).garment? 5 = some (shirt (.onPlaten 3)) ∧ (shirt (.onPlaten 3)).done = {}
    ∧ (cancelling .opened).chosenLine blank = some (2, 0) ∧ (cancelling .held).chosenLine blank = none
    ∧ (cancelling .opened).order? 2 = some (order2 .opened) ∧ (order2 .opened).lines[0]? = some { line1 with allocated := 0 }
    ∧ (shirt (.onPlaten 3)).bound = some (1, 0) ∧ (cancelling .opened).order? 1 = some (order1 .cancelling)
    ∧ (order1 .cancelling).lines[0]? = some line1 ∧ (∀ n, n < 10 → (n, 6) ∉ (cancelling .opened).candidates 1) := by
  decide +kernel
theorem witness_reassign_forms :
    (cancelling .opened).SettingsInRange ∧ (cancelling .opened).PoolForm ∧ (cancelling .opened).CarouselForm where
  left :=
    { witness_settings with
      platenCount := by decide, origin := by decide, dwell := by decide, dwellLimit := by decide, lapLimit := by decide }
  right :=
    ⟨{ size := by decide, tickets := by decide, range := by decide, generator := by decide, setup := by decide },
      { valid := by decide +kernel
        platens := fun p seq h => by
          by_cases hp : p < 16
          · rw [(by decide +kernel : ∀ p, p < 16 → ((cancelling .opened).platen p).garment = if p = 3 then some 5 else none)
              p hp] at h
            split at h
            · cases h; subst p; exact ⟨shirt (.onPlaten 3), by decide +kernel, rfl⟩
            · cases h
          · have : ((cancelling .opened).platen p) = {} := by
              show (_ : Vector PlatenEntry 16)[p]?.getD {} = {}
              rw [Vector.getElem?_eq_none (by omega)]; rfl
            rw [this] at h; cases h
        places := fun g hg p h => by rw [cancelling_only g hg] at h ⊢; cases h; decide +kernel
        matched := fun g hg p h => by rw [cancelling_only g hg] at h; cases h
        presented := fun r h => by cases h }⟩

theorem witness_retireOrder :
    (book .opened).orderAtCursor = some (order1 .opened) ∧ ¬ (∀ l ∈ (order1 .opened).lines, l.finished = 0 ∧ l.allocated = 0)
    ∧ (book .complete).orderAtCursor = some (order1 .complete)
    ∧ (withBin .held [{ line1 with allocated := 0 }]).orderAtCursor =
        some { order1 .held with lines := [{ line1 with allocated := 0 }], bin := some 4 }
    ∧ (withBin .held []).bin 4 = some { order := 1, count := 2 } := by decide +kernel

theorem witness_counters :
    (inService2.order? (order1 .opened).number = some (order1 .opened) ∧ (order1 .opened).lines[0]? = some line1)
    ∧ cell.order? 2 = none ∧ cell.order? 1 ≠ none
    ∧ (withBin .cancelling [{ line1 with allocated := 0 }]).order? 1 =
        some { order1 .cancelling with lines := [{ line1 with allocated := 0 }], bin := some 4 }
    ∧ { order1 .cancelling with lines := [{ line1 with allocated := 0 }] }.allocatedSum = 0
    ∧ (order1 .cancelling).allocatedSum ≠ 0
    ∧ ((book .cancelling).order? (order1 .cancelling).number = some (order1 .cancelling)
      ∧ (order1 .cancelling).lines[0]? = some line1) := by decide +kernel

theorem witness_blank_tables :
    7 < (8 : Byte).toNat ∧ (7 : Byte).toNat ≤ 7 ∧ (1 : Byte) ≠ 0 ∧ (15 : Byte).toNat ≤ 15 ∧ 15 < (16 : Byte).toNat
    ∧ 3 < (4 : Byte).toNat ∧ ColourClass.heather.byte = 3 := by decide

/-! ### Matching and spoiling -/

theorem witness_chosen_line :
    cell.book.admission = [] ++ 1 :: [] ∧ cell.order? 1 = some { order1 .opened with lines := [{ line1 with allocated := 0 }] }
    ∧ ({ line1 with allocated := 0 } : Line).finished + 0 < line1.ordered ∧ (cell.slot 0).state = .ready
    ∧ 15 < ({ blank with size := 16 } : BlankKey).size := by decide +kernel

def blockedCell : State := (cell.setPlatenBlocked 0 true)
def matched : State := atStop 0 .inService (shirt (.matched 0))
def fullPool : State :=
  { loadDue with garmentTable := { garments := (List.range 64).map fun n => { shirt .atExit with seq := n + 1 } } }
theorem witness_blankScan :
    (blockedCell.Accepts 0 .blankScan [0, 0, 0] ∧ (blockedCell.platen (blockedCell.platenAt 0)).blocked = true)
    ∧ ((atStop 0 .done (shirt (.onPlaten 0))).Accepts 0 .blankScan [0, 0, 0]
      ∧ (atStop 0 .done (shirt (.onPlaten 0))).garmentAt 0 = some (shirt (.onPlaten 0))
      ∧ (shirt (.onPlaten 0)).isMatched = false)
    ∧ (cell.Accepts 0 .blankScan [0, 0, 0] ∧ cell.garmentAt 0 = none ∧ cell.service 0 = .none)
    ∧ (matched.Accepts 0 .blankScan [0, 0, 0] ∧ matched.garmentAt 0 = some (shirt (.matched 0))
      ∧ (shirt (.matched 0)).isMatched = true ∧ matched.service 0 = .inService)
    ∧ (fullPool.Accepts 0 .blankScan [0, 0, 0] ∧ fullPool.garmentAt 0 = none ∧ fullPool.service 0 = .due
      ∧ 64 ≤ fullPool.garments.length)
    ∧ (loadDue.Accepts 0 .blankScan [9, 0, 0] ∧ loadDue.chosenLine { blank with style := 9 } = none) := by
  unfold State.Accepts; decide +kernel

theorem witness_blankScan_match :
    loadDue.Accepts 0 .blankScan [0, 0, 0] ∧ loadDue.SettingsInRange ∧ loadDue.PoolForm ∧ loadDue.garmentAt 0 = none
    ∧ loadDue.garments.length < 64 ∧ loadDue.chosenLine blank = some (1, 0)
    ∧ loadDue.order? 1 = some { order1 .opened with lines := [{ line1 with allocated := 0 }] } :=
  ⟨by unfold State.Accepts; decide +kernel,
    { witness_settings with
      platenCount := by decide, origin := by decide, dwell := by decide, dwellLimit := by decide, lapLimit := by decide },
    { size := by decide, tickets := by decide, range := by decide, generator := by decide, setup := by decide },
    by decide +kernel, by decide +kernel, by decide +kernel, by decide +kernel⟩
/-- The generator stands at 99999999, and live garments hold that value and the next, 00000001: 00000002 is issued (R28). -/
def wrapping : State :=
  { loadDue with garmentTable :=
      { garments := [{ shirt .atExit with seq := 99999999 }, { shirt .atExit with seq := 1 }], generator := 99999999 } }
theorem witness_blankScan_passes_over :
    wrapping.garment? wrapping.garmentTable.generator ≠ none ∧ wrapping.garment? 1 ≠ none ∧ wrapping.garment? 2 = none
    ∧ (99999999 - 1 + 2) % 99999999 + 1 = 2 ∧ wrapping.issuedSeq = 2 ∧ wrapping.chosenLine blank = some (1, 0) := by
  decide +kernel

theorem witness_spoil :
    inService2.garment? 5 = some (shirt (.onPlaten 2)) ∧ (shirt (.onPlaten 2)).isActive = true
    ∧ (shirt (.onPlaten 2)).claim = some claim1 ∧ (shirt (.onPlaten 2)).bound = some (1, 0)
    ∧ inService2.order? 1 = some (order1 .opened) ∧ (order1 .opened).lines[0]? = some line1 ∧ claim1.slot < 48
    ∧ (atExit { shirt .atExit with disposition := .restock }).garment? 5 = some { shirt .atExit with disposition := .restock }
    ∧ ({ shirt .atExit with disposition := .restock } : Garment).isActive = false := by decide +kernel

def cursor5 (s : State) : State := { s with host := { garmentCursor := some 5 } }
theorem witness_spoilGarment :
    cell.garmentAtCursor = none
    ∧ (cursor5 (atExit (shirt .atExit))).garmentAtCursor = some (shirt .atExit)
    ∧ ((cursor5 (atStop 9 .done (shirt (.onPlaten 9)))).garmentAtCursor = some (shirt (.onPlaten 9))
      ∧ (atStop 9 .done (shirt (.onPlaten 9))).service ((atStop 9 .done (shirt (.onPlaten 9))).stopOf 9) ≠ .inService)
    ∧ ((cursor5 inService2).garmentAtCursor = some (shirt (.onPlaten 2))
      ∧ inService2.service (inService2.stopOf 2) = .inService)
    ∧ ((cursor5 matched).garmentAtCursor = some (shirt (.matched 0)) ∧ (shirt (.matched 0)).bound = some (1, 0)
      ∧ ¬ (cursor5 matched).DrainEndsWith 5 ∧ (mode .drain (cursor5 matched)).DrainEndsWith 5)
    ∧ (cursor5 (atExit { shirt .atExit with disposition := .restock })).garmentAtCursor =
        some { shirt .atExit with disposition := .restock } := by unfold State.DrainEndsWith; decide +kernel

/-! ### Artwork store, recipe table, settings -/

/-- Slot 0 READY with block 0, slot 1 LOADING with block 1, and no other block owned. -/
def store : State :=
  { cell with
    art := { cell.art with
      slots := ((Vector.replicate 48 {}).setIfInBounds 0 profile0).setIfInBounds 1
        { profile0 with state := .loading, chain := [1], fill := 4 }
      blockMap := ((Vector.replicate 384 none).setIfInBounds 0 (some 0)).setIfInBounds 1 (some 1) } }
/-- As `store`, with the given profile record in slot 1. -/
def withSlot1 (p : Profile) : State := store.setSlot 1 p
def claimedSlot0 : State := cell.setSlot 0 { profile0 with useCount := 1 }
/-- All 384 blocks belong to slot 7. -/
def fullStore : State :=
  { cell with art := { slots := .replicate 48 {}, blockMap := .replicate 384 (some 7) } }
/-- A block map with one entry throughout. -/
theorem owner_replicate (v : Option Nat) (a : ArtworkStore) (h : a.blockMap = .replicate 384 v) (b : Nat) (hb : b < 384) :
    a.owner b = v := by
  simp [ArtworkStore.owner, h, hb]
theorem freeCount_replicate (v : Option Nat) (a : ArtworkStore) (h : a.blockMap = .replicate 384 v) :
    a.freeCount = if v.isNone then 384 else 0 := by
  have : a.freeBlocks = (List.range 384).filter fun _ => v.isNone :=
    List.filter_congr fun b hb => by rw [owner_replicate v a h b (List.mem_range.mp hb)]
  rw [ArtworkStore.freeCount, this]
  cases v with
  | none => rw [List.filter_eq_self.mpr (fun _ _ => by rfl), List.length_range]; rfl
  | some n => rw [List.filter_eq_nil_iff.mpr (fun _ _ => by simp)]; rfl
theorem witness_profileBegin :
    ((cell.slot 48).state = .empty ∧ ¬ ((48 : Byte).toNat ≤ 47) ∧ (47 : Byte).toNat ≤ 47 ∧ (64 : Byte).toNat ≤ 64
      ∧ (32 : Byte).toNat ≤ 32 ∧ (40 : Byte).toNat ≤ 40)
    ∧ ((claimedSlot0.slot 0).state = .ready ∧ 0 < (claimedSlot0.slot 0).useCount)
    ∧ fullStore.blocksAvailable 0 < (64 * 64 + 63) / 64 := by
  refine ⟨by decide +kernel, by decide +kernel, ?_⟩
  have hl : fullStore.loadingSlot = none := by decide +kernel
  have hc : (fullStore.slot 0).chain = [] := by decide +kernel
  rw [State.blocksAvailable, freeCount_replicate (some 7) _ rfl, hl, hc]
  decide
theorem witness_profileBegin_taken :
    (64 * 64 + 63) / 64 ≤ cell.blocksAvailable 1 ∧ (cell.slot 1).state ≠ .ready
    ∧ (∀ m, m ≠ 1 → (cell.slot m).state ≠ .loading)
    ∧ (∀ b, b < 384 → (b ∈ (cell.slot 1).chain ↔ cell.art.owner b = some 1)) ∧ (cell.slot 1).chain.Nodup
    ∧ (∀ b ∈ (cell.slot 1).chain, b < 384)
    ∧ store.loadingSlot = some 1 ∧ (2 * 3 + 63) / 64 ≤ store.blocksAvailable 2 := by
  have hl : cell.loadingSlot = none := by decide +kernel
  have hs : store.loadingSlot = some 1 := by decide +kernel
  have hc : (cell.slot 1).chain = [] := by decide +kernel
  refine ⟨?_, by decide +kernel, fun m _ => ?_, fun b hb => ?_, by simp [hc], by simp [hc], hs, ?_⟩
  · rw [State.blocksAvailable, freeCount_replicate none _ rfl, hl, hc]; decide
  · by_cases hm : m < 48
    · exact (by decide +kernel : ∀ k, k < 48 → (cell.slot k).state ≠ .loading) m hm
    · rw [State.slot, Vector.getElem?_eq_none (Nat.not_lt.mp hm)]; decide
  · simp [hc, owner_replicate none cell.art rfl b hb]
  · have h1 : (store.slot 1).chain.length = 1 := by decide +kernel
    rw [State.blocksAvailable, hs]
    simp [h1]
theorem witness_profileData :
    store.loadingSlot = some 1 ∧ 1 ≤ (1 : Byte).toNat ∧ (64 : Byte).toNat ≤ 64 ∧ (2 : Byte).toNat ≤ [(4 : Byte), 5].length
    ∧ (store.slot 1).chain.Nodup ∧ (∀ b ∈ (store.slot 1).chain, b < 384)
    ∧ (store.slot 1).width * (store.slot 1).height ≤ 64 * (store.slot 1).chain.length
    ∧ 1 < (store.slot 1).width * (store.slot 1).height - (store.slot 1).fill
    ∧ (∀ b ∈ (store.slot 0).chain, b ∉ (store.slot 1).chain) := by decide +kernel
theorem witness_profile_commands :
    ((0 : Byte) = 0 ∧ 64 < (65 : Byte).toNat) ∧ cell.loadingSlot = none
    ∧ (store.loadingSlot = some 1 ∧ (store.slot 1).fill < (store.slot 1).width * (store.slot 1).height)
    ∧ ((withSlot1 { profile0 with state := .loading, chain := [1] }).loadingSlot = some 1
      ∧ 6 ≤ ((withSlot1 { profile0 with state := .loading, chain := [1] }).slot 1).fill)
    ∧ 47 < (48 : Byte).toNat ∧ ((claimedSlot0.slot 0).state = .ready ∧ 0 < (claimedSlot0.slot 0).useCount)
    ∧ (cell.slot 47).state = .empty ∧ ((cell.slot 0).state ≠ .empty ∧ (cell.slot 0).useCount = 0)
    ∧ (0 + 3 ≤ (cell.slot 0).width ∧ 0 + 2 ≤ (cell.slot 0).height ∧ ¬ 1 + 3 ≤ (cell.slot 0).width) := by decide +kernel
theorem witness_store_reads :
    47 < (48 : Byte).toNat ∧ (cell.slot 47).state = .empty ∧ (cell.slot 0).state ≠ .empty
    ∧ ((cell.slot 0).width * (cell.slot 0).height < 1 + 6 ∧ 0 + 6 ≤ (cell.slot 0).width * (cell.slot 0).height)
    ∧ (64 < (65 : Byte).toNat ∧ (64 : Byte).toNat ≤ 64) ∧ 384 ≤ (384 : Half).toNat ∧ (384 : Half) ≠ 0xFFFF
    ∧ (383 : Half).toNat < 384 := by decide +kernel

def bankInUse : State :=
  { cell with
    recipes := { banks := (Vector.replicate 4 {}).setIfInBounds 2
                            { useCount := 1
                              entries := (Vector.replicate 64 {}).setIfInBounds 5 { pending := some { w := 1 } } } } }
theorem witness_recipe_writes :
    3 < (4 : Byte).toNat ∧ 63 < (64 : Byte).toNat ∧ 15 < (16 : Byte).toNat ∧ (63 : Byte).toNat ≤ 63 ∧ (15 : Byte).toNat ≤ 15
    ∧ (3 : Fin 4).val = (3 : Byte).toNat ∧ (cell.bank 3).useCount = 0 ∧ (bankInUse.bank 2).useCount = 1
    ∧ ((bankInUse.bank 2).entry 5).pending = some { w := 1 } := by decide +kernel
/-- The only claim on bank 2 is the garment's. -/
def bankClaimed : State :=
  { bankInUse with garmentTable := { garments := [{ shirt .atExit with claim := some { claim1 with bank := 2 } }] } }
theorem witness_bank_applies :
    (cell.bank 0).useCount = 0 ∧ (bankInUse.bank 2).useCount ≠ 0
    ∧ bankClaimed.garment? 5 = some { shirt .atExit with claim := some { claim1 with bank := 2 } }
    ∧ (bankClaimed.bank 2).useCount = 1 ∧ claim1.slot < 48
    ∧ 1 < ((bankClaimed.setBank 2 { (bankClaimed.bank 2) with useCount := 2 }).bank 2).useCount := by decide +kernel
theorem witness_settings_in_range :
    (2 : Byte) ≠ 0 ∧ (2 : Byte) ≠ 1 ∧ (510 : Half).toNat ≤ 510 ∧ 510 < (511 : Half).toNat ∧ 600 < (601 : Half).toNat
    ∧ ((600 : Half) ≠ 0 ∧ (600 : Half).toNat ≤ 600) ∧ 3 < (4 : Byte).toNat ∧ (3 : Byte).toNat ≤ 3
    ∧ 100 < (101 : Byte).toNat ∧ (100 : Byte).toNat ≤ 100 ∧ 300 < (301 : Half).toNat ∧ (300 : Half).toNat ≤ 300
    ∧ 30 < (31 : Byte).toNat ∧ ((30 : Byte) ≠ 0 ∧ (30 : Byte).toNat ≤ 30) ∧ 120 < (121 : Byte).toNat
    ∧ ((120 : Byte) ≠ 0 ∧ (120 : Byte).toNat ≤ 120) := by decide
/-- A limit of 1 second is reached at once by a dwell, a report and a belt that are a second old (R94, R129, R136). -/
theorem witness_limits_reached :
    (let s := atStop 3 .due (shirt (.onPlaten 3))
     s.mode = .run ∧ s.indexPermit = false ∧ s.carousel.late = false)
    ∧ (inHeatZone.tunnel.staleMarker = false ∧ inHeatZone.tunnel.stallMarker = false
      ∧ ∃ g ∈ inHeatZone.garments, inHeatZone.inHeat g = true) := by decide +kernel
/-- The corners of a window of 4 rows and 6 columns under EXCHANGE: 6 rows and 4 columns in the garment frame. -/
theorem witness_window_cells : (5 < if true = true then 6 else 4) ∧ (3 < if true = true then 4 else 6) := by decide
/-- The window of 4 rows and 6 columns, a quarter turned and turned upside down: garment cell (5, 3) is window cell (0, 5),
and with EXCHANGE clear and MIRROR_X set, (3, 5) is (3, 0) (R76). -/
theorem test_window_cell_corners :
    windowCellOf ⟨true, false, true⟩ 4 6 5 3 = (0, 5) ∧ windowCellOf ⟨false, true, false⟩ 4 6 3 5 = (3, 0) := by decide
theorem witness_dose_rows :
    0 < (darkCell.computeSheet darkArt blank).figures.rows ∧ 1 < (darkCell.computeSheet darkArt blank).figures.rows := by
  decide +kernel
theorem witness_sheet_figures : ∀ b c, ((cell.bank b).entry c).live.w ≤ 255 ∧ ((cell.bank b).entry c).live.u ≤ 255 := by
  intro b c
  have hb : cell.bank b = {} := by
    show (Vector.replicate 4 ({} : Bank))[b] = {}
    simp
  have hc : ((cell.bank b).entry c) = {} := by
    rw [hb]
    show (Vector.replicate 64 ({} : RecipeEntry))[c]?.getD {} = {}
    rw [Vector.getElem?_replicate]; split <;> rfl
  rw [hc]; decide

/-! ### Carousel -/

theorem witness_configuration :
    cell.mode ≠ .setup ∧ setupCell.mode = .setup ∧ (3 : Byte).toNat < 4 ∧ 16 < (17 : Byte).toNat
    ∧ (4 ≤ (4 : Byte).toNat ∧ (16 : Byte).toNat ≤ 16) ∧ setupCell.carousel.platenCount ≤ (10 : Byte).toNat
    ∧ (9 : Byte).toNat < setupCell.carousel.platenCount
    ∧ (7 < (8 : Byte).toNat ∧ 8 < (9 : Byte).toNat ∧ (5 : Byte).toNat ≤ 5 ∧ 15 < (16 : Byte).toNat)
    ∧ ((7 : LinkNo).val = (7 : Byte).toNat ∧ StationKind.unload.byte = 5 ∧ StationKind.unassigned.byte = 8) := by
  decide +kernel
/-- The belt of chapter 7 is valid; one cell less of exit is not. -/
theorem witness_geometry :
    16 + 60 + 20 = (96 : Byte).toNat ∧ (([15, 15, 15, 15] : List Byte).map (·.toNat)).sum = (60 : Byte).toNat
    ∧ ¬ 16 + 60 + 19 = (96 : Byte).toNat ∧ (240 : Byte).toNat ≤ 240 ∧ (16 : Byte).toNat ≤ 96 := by decide
/-- Two points are a valid curve, one is not, and a length byte of 4 is no multiple of 3. -/
theorem witness_curve :
    let points : List CurvePoint := [{ temp := 0, rate := 0 }, { temp := 300, rate := 255 }]
    (4 : Byte).toNat % 3 ≠ 0 ∧ (6 : Byte).toNat = 3 * points.length ∧ (∀ p ∈ points, p.temp < 65536 ∧ p.rate < 256)
    ∧ [(0 : Byte), 0, 0, 1, 44, 255] = points.flatMap (fun p => u16 p.temp ++ [u8 p.rate]) ∧ (∀ p ∈ points, p.temp ≤ 300)
    ∧ points.Pairwise (fun p q => p.temp < q.temp ∧ p.rate ≤ q.rate) ∧ ¬ 2 ≤ [points[0]].length := by decide

theorem witness_block_platen :
    cell.carousel.platenCount ≤ (10 : Byte).toNat ∧ (9 : Byte).toNat < cell.carousel.platenCount
    ∧ (inService2.platen 2).garment ≠ none ∧ ((cell.platen 9).garment = none ∧ (cell.platen 9).blocked = false)
    ∧ (blockedCell.platen 0).blocked = true ∧ cell.platenAt 0 = 0 ∧ cell.platenAt 0 ≠ 9 ∧ cell.service 0 = .none
    ∧ loadDue.service 0 = .due ∧ cell.stationAt 0 = some { kind := .load } := by decide +kernel
theorem witness_station_mode :
    (7 < (8 : Byte).toNat ∧ 1 < (2 : Byte).toNat) ∧ (unassigned1.link 1).kind = .unassigned
    ∧ (cell.link 6).kind.isCarousel = false ∧ (cell.link 6).kind ≠ .unassigned
    ∧ ((cell.link 1).kind.isCarousel = true ∧ (cell.link 1).bypassed = false ∧ (cell.link 1).exempt = false)
    ∧ (bypassed1.link 1).bypassed = true ∧ inService2.service (inService2.link 1).stop ≠ .none
    ∧ cell.service (cell.link 1).stop = .none ∧ (cell.link 1).stop < 16 := by decide +kernel

def wet : Garment := { shirt (.onPlaten 2) with done := ⟨true, false, false, false⟩ }
theorem witness_service_states :
    cell.stationAt 1 = none ∧ bypassed1.stationAt 2 = some { kind := .pretreat, stop := 2, bypassed := true }
    ∧ cell.stationAt 0 = some { kind := .load } ∧ (cell.stationAt 3 = some { kind := .press, stop := 3 } ∧ cell.garmentAt 3 = none)
    ∧ (∀ n ∈ [2, 3, 4, 5, 8], ((atStop n .none wet).stationAt n).isSome = true ∧ (atStop n .none wet).garmentAt n = some wet) := by
  decide +kernel

/-- An index event in RUN, in DRAIN with garments left, and in DRAIN with the last garment MATCHED at the LOAD stop. -/
theorem witness_index :
    (0 < inService2.carousel.platenCount ∧ inService2.carousel.platenCount ≤ 16
      ∧ inService2.carousel.origin < inService2.carousel.platenCount)
    ∧ ((mode .drain inService2).mode = .drain ∧ (mode .drain inService2).garments ≠ []
      ∧ ((mode .drain inService2).effectOrder.foldl State.forcedEffect (mode .drain inService2)).garments ≠ [])
    ∧ ((mode .drain matched).mode = .drain ∧ (mode .drain matched).garments = [shirt (.matched 0)]
      ∧ (mode .drain matched).garmentAt 0 = some (shirt (.matched 0)) ∧ (shirt (.matched 0)).isMatched = true
      ∧ (mode .drain matched).stationAt 0 = some { kind := .load } ∧ (mode .drain matched).service 0 = .inService
      ∧ ((mode .drain matched).effectOrder.foldl State.forcedEffect (mode .drain matched)).garments = []) := by
  decide +kernel
/-- The premises of the effects together: a garment in service at stop 2 of a state that meets the invariants. -/
theorem witness_forced_together :
    inService2.SettingsInRange ∧ inService2.PoolForm ∧ inService2.CarouselForm ∧ 2 < inService2.carousel.platenCount
    ∧ inService2.garmentAt 2 = some (shirt (.onPlaten 2))
    ∧ ∀ n, n < inService2.carousel.platenCount → (inService2.platen (inService2.platenAt n)).garment ≠ some 6 :=
  ⟨witness_settings, witness_pool, witness_carousel, by decide, by decide +kernel, by decide +kernel⟩
theorem witness_forced_index :
    (inService2.stationAt 2 = some { kind := .pretreat, stop := 2 } ∧ inService2.garmentAt 2 = some (shirt (.onPlaten 2))
      ∧ inService2.service 2 = .inService)
    ∧ (∀ n ∈ [3, 4, 5], ((atStop n .inService wet).stationAt n).isSome = true
      ∧ (atStop n .inService wet).garmentAt n = some wet ∧ (atStop n .inService wet).service n = .inService)
    ∧ ((atStop 8 .due wet).stationAt 8 = some { kind := .unload, stop := 8 } ∧ (atStop 8 .due wet).service 8 = .due)
    ∧ (atStop 2 .due wet).service 2 = .due ∧ (atStop 2 .done wet).service 2 = .done
    ∧ (matched.stationAt 0 = some { kind := .load } ∧ matched.garmentAt 0 = some (shirt (.matched 0))
      ∧ (shirt (.matched 0)).isMatched = true ∧ matched.service 0 = .inService) := by decide +kernel

/-! ### Station requests -/

/-- PRESS DONE of ticket 000000051 (sequence 5) from the press at stop 3, with the stop in the given state. -/
def pressed (v : Service) : State := atStop 3 v wet
theorem witness_reports :
    (∀ v ∈ [Service.none, .due, .inService, .done, .missed], (pressed v).Accepts 2 .pressDone ticket5
      ∧ (pressed v).garment? 5 = some wet ∧ ((pressed v).platen ((pressed v).platenAt ((pressed v).link 2).stop)).garment = some 5
      ∧ (pressed v).service ((pressed v).link 2).stop = v)
    ∧ payloadTicket ticket5 = some 5 ∧ cell.garment? 5 = none ∧ cell.Accepts 2 .pressDone ticket5
    ∧ ((onBelt wet).garment? 5 = some wet ∧ ((onBelt wet).platen ((onBelt wet).platenAt 3)).garment ≠ some 5)
    ∧ (((pressed .done).setVoid 3 (some 5)).stop 3).void = some 5 ∧ ((pressed .done).stop 3).void ≠ some 5
    ∧ (((atStop 8 .due wet).setUnloadRecord (some .wait)).Accepts 5 .unloadDone (ticket5 ++ [2])
      ∧ payloadTicket (ticket5 ++ [2]) = some 5
      ∧ ((atStop 8 .due wet).setUnloadRecord (some .wait)).service 8 = .due
      ∧ ((atStop 8 .due wet).setUnloadRecord (some .wait)).garment? 5 = some wet) := by
  unfold State.Accepts; decide +kernel

/-- A report of an IN_SERVICE stop passes the tests of R106. -/
theorem reportOn_of (s : State) (n : Nat) (p : List Byte) (g : Garment) (seq : Nat) (h1 : payloadTicket p = some seq)
    (h2 : s.garment? seq = some g ∧ (s.platen (s.platenAt n)).garment = some seq
      ∧ (s.service n = .inService ∨ (s.service n = .due ∧ false = true ∧ s.carousel.unloadRecord = some .wait))) :
    s.ReportOn n p g := ⟨seq, h1, (s.reportTest_ok n seq false g).mpr h2⟩

theorem witness_load_reports :
    (matched.Accepts 0 .loadDone ticket5 ∧ matched.ReportOn 0 ticket5 (shirt (.matched 0)))
    ∧ (cell.Accepts 0 .loadSkip [] ∧ cell.service 0 = .none) ∧ (loadDue.Accepts 0 .loadSkip [] ∧ loadDue.service 0 = .due)
    ∧ (matched.Accepts 0 .loadSkip [] ∧ matched.service 0 = .inService ∧ matched.garmentAt 0 = some (shirt (.matched 0))
      ∧ matched.order? 1 = some (order1 .opened))
    ∧ ((mode .drain matched).DrainEndsWith 5 ∧ (mode .drain matched).Accepts 0 .loadSkip [] ∧ ¬ matched.DrainEndsWith 5) := by
  refine ⟨⟨?_, reportOn_of _ _ _ _ 5 (by decide) (by decide +kernel)⟩, ?_⟩
  all_goals (unfold State.Accepts; try unfold State.DrainEndsWith); decide +kernel

/-- The stations that begin service, by link and stop: pretreat, press, print white, print colour. -/
theorem witness_service_begins :
    (∀ v ∈ [Service.none, .due, .inService, .done, .missed], (atStop 2 v wet).Accepts 1 .sheet []
      ∧ (atStop 3 v wet).Accepts 2 .pressStart [] ∧ (atStop 4 v wet).Accepts 3 .jobFetch []
      ∧ (atStop 5 v wet).Accepts 4 .jobFetch [] ∧ (atStop 5 v wet).service ((atStop 5 v wet).link 4).stop = v
      ∧ (atStop 5 v wet).garmentAt 5 = some wet)
    ∧ wet.disposition = .active
    ∧ (atStop 2 .due { wet with disposition := .restock }).garmentAt 2 = some { wet with disposition := .restock }
    ∧ (inService2.Accepts 1 .doseRow [1] ∧ inService2.garmentAt 2 = some (shirt (.onPlaten 2))
      ∧ (shirt (.onPlaten 2)).claim = some claim1 ∧ (1 : Byte).toNat < 2 ∧ 2 ≤ (2 : Byte).toNat) := by
  unfold State.Accepts; decide +kernel

theorem witness_work_reports :
    (inService2.Accepts 1 .doseDone (ticket5 ++ [2]) ∧ inService2.ReportOn 2 (ticket5 ++ [2]) (shirt (.onPlaten 2))
      ∧ 2 < (payloadByte (ticket5 ++ [3]) 5).toNat ∧ (payloadByte (ticket5 ++ [0]) 5).toNat = 0
      ∧ (payloadByte (ticket5 ++ [2]) 5).toNat ≤ (shirt (.onPlaten 2)).figures.rows)
    ∧ ((pressed .inService).Accepts 2 .pressDone ticket5 ∧ (pressed .inService).ReportOn 3 ticket5 wet)
    ∧ ((atStop 4 .inService wet).Accepts 3 .printDone (ticket5 ++ [0, 120])
      ∧ (atStop 4 .inService wet).ReportOn 4 (ticket5 ++ [0, 120]) wet)
    ∧ ((atStop 5 .inService wet).Accepts 4 .printFault (ticket5 ++ [7])
      ∧ (atStop 5 .inService wet).ReportOn 5 (ticket5 ++ [7]) wet ∧ wet.disposition = .active) := by
  refine ⟨⟨?_, reportOn_of _ _ _ _ 5 (by decide) (by decide +kernel), ?_⟩,
    ⟨?_, reportOn_of _ _ _ _ 5 (by decide) (by decide +kernel)⟩,
    ⟨?_, reportOn_of _ _ _ _ 5 (by decide) (by decide +kernel)⟩,
    ⟨?_, reportOn_of _ _ _ _ 5 (by decide) (by decide +kernel), ?_⟩⟩
  all_goals (try unfold State.Accepts); decide +kernel

def finishedShirt : Garment := { shirt (.onPlaten 8) with done := ⟨true, true, true, true⟩, claim := none }
theorem witness_unload_query :
    (∀ v ∈ [Service.none, .due, .done, .missed], (atStop 8 v finishedShirt).Accepts 5 .unloadQuery []
      ∧ (atStop 8 v finishedShirt).service ((atStop 8 v finishedShirt).link 5).stop = v
      ∧ (atStop 8 v finishedShirt).garmentAt 8 = some finishedShirt)
    ∧ (cell.Accepts 5 .unloadQuery [] ∧ cell.garmentAt 8 = none)
    ∧ finishedShirt.stepsOutstanding = false ∧ wet.stepsOutstanding = true ∧ wet.laps < cell.carousel.lapLimit
    ∧ cell.carousel.lapLimit ≤ { wet with laps := 1 }.laps
    ∧ cell.entryClear 11 = true ∧ (onBelt (shirt (.onBelt 13))).entryClear 11 = false
    ∧ ((atStop 8 .inService finishedShirt).setUnloadRecord (some .transfer)).carousel.unloadRecord = some .transfer := by
  unfold State.Accepts; decide +kernel
theorem witness_unload_done :
    (∀ a ∈ [(0 : Byte), 1, 2, 3], (atStop 8 .inService finishedShirt).Accepts 5 .unloadDone (ticket5 ++ [a])
      ∧ payloadTicket (ticket5 ++ [a]) = some 5 ∧ payloadByte (ticket5 ++ [a]) 5 = a)
    ∧ (atStop 8 .inService finishedShirt).reportTest 8 5 true = .ok finishedShirt
    ∧ ((atStop 8 .due finishedShirt).setUnloadRecord (some .wait)).reportTest 8 5 true = .ok finishedShirt
    ∧ (mode .drain (atStop 8 .inService finishedShirt)).DrainEndsWith 5 := by
  refine ⟨?_, (State.reportTest_ok _ 8 5 true _).mpr ?_, (State.reportTest_ok _ 8 5 true _).mpr ?_, ?_⟩
  all_goals (try unfold State.Accepts); (try unfold State.DrainEndsWith); decide +kernel

/-! ### Tunnel and pack -/

/-- Tail 94 stays on the belt of 96 cells at the next tick, tail 95 leaves it, and tail 10 brings the middle to cell 16. -/
theorem witness_beltTick :
    inHeatZone.tunnel.belt.Nodup
    ∧ (∀ tail ∈ [10, 94, 95], (onBelt (shirt (.onBelt tail))).garment? 5 = some (shirt (.onBelt tail)))
    ∧ 94 + 1 < belt.belt ∧ belt.belt ≤ 95 + 1 ∧ belt.entry ≤ 10 + 1 + (11 - 1) / 2
    ∧ 10 + 1 + (11 - 1) / 2 < belt.entry + (belt.lengths.toList.take 1).sum ∧ 0 < belt.segments := by decide +kernel
theorem witness_beltTick_belt :
    ∀ seq ∈ inHeatZone.tunnel.belt, ∃ g tail, inHeatZone.garment? seq = some g ∧ g.place = .onBelt tail := by
  intro seq h
  have : seq = 5 := by simpa [inHeatZone, onBelt] using h
  subst this
  exact ⟨shirt (.onBelt 30), 30, by decide +kernel, rfl⟩
theorem witness_temp_report :
    curveRises curve = true ∧ (119 < 120 ∧ 120 ≤ 120 ∧ 149 < 150 ∧ 200 ≤ 200)
    ∧ cell.Accepts 6 .tempReport [0, 172, 0, 178, 0, 178, 0, 160] ∧ ([0, 172, 0, 178, 0, 178, 0, 160] : List Byte).length / 2 = 4
    ∧ cell.tunnel.geometry.segments = 4 ∧ cell.Accepts 6 .tempReport [0, 172] ∧ ([0, 172] : List Byte).length / 2 ≠ 4 := by
  unfold State.Accepts; decide +kernel

/-- A returning garment behind a belt whose back garment has its tail at the given cell. -/
def returningBehind (tail : Nat) : State :=
  { holding (shirt .returning) with
    garmentTable := { garments := [shirt .returning, { shirt (.onBelt tail) with seq := 6 }] }
    tunnel := { cell.tunnel with belt := [6] }
    pack := { returnList := [5] } }
theorem witness_returnPlaced :
    (∀ m ∈ [(0 : Byte), 1, 2], (returningBehind 14).Accepts 7 .returnPlaced (ticket5 ++ [m])
      ∧ payloadTicket (ticket5 ++ [m]) = some 5 ∧ payloadByte (ticket5 ++ [m]) 5 = m)
    ∧ (returningBehind 14).garment? 5 = some (shirt .returning) ∧ cell.garment? 5 = none
    ∧ (atExit (shirt .atExit)).garment? 5 = some (shirt .atExit)
    ∧ (returningBehind 14).entryClear 11 = true ∧ (returningBehind 13).entryClear 11 = false
    ∧ (returningBehind 13).tunnel.belt = [] ++ [6]
    ∧ (returningBehind 13).garment? 6 = some { shirt (.onBelt 13) with seq := 6 } := by unfold State.Accepts; decide +kernel

theorem witness_packScan_refusals :
    cell.Accepts 7 .packScan ticket5 ∧ payloadTicket ticket5 = some 5 ∧ cell.garment? 5 = none
    ∧ (inService2.Accepts 7 .packScan ticket5 ∧ (shirt (.onPlaten 2)).place.platen? ≠ none)
    ∧ (holding (shirt .returning)).garment? 5 = some (shirt .returning)
    ∧ (onBelt (shirt (.onBelt 80))).garment? 5 = some (shirt (.onBelt 80)) := by unfold State.Accepts; decide +kernel
theorem witness_packScan_verdicts :
    (packing packed (order1 .opened)).Accepts 7 .packScan ticket5
    ∧ (packing packed (order1 .opened)).garment? 5 = some packed
    ∧ (packing packed (order1 .opened)).order? 1 = some (order1 .opened)
    ∧ ({ packed with bound := none } : Garment).bound = none
    ∧ ({ packed with disposition := .restock } : Garment).disposition ≠ .active
    ∧ (order1 .cancelling).state = .cancelling ∧ (order1 .cancelled).state = .cancelled
    ∧ ¬ packed.figures.cureDemand ≤ { packed with cure := 1893 }.cure ∧ packed.figures.cureDemand ≤ packed.cure
    ∧ ({ packed with inspect := { inkDeviation := true } } : Garment).inspect ≠ {} ∧ packed.inspect = {}
    ∧ (1 : Nat) < 2 ∧ ({ packed with recures := 2 } : Garment).recures = 2 := by unfold State.Accepts; decide +kernel
theorem witness_packScan_counts :
    ({ order1 .opened with lines := [{ line1 with ordered := 1 }] } : Order).total = 1
    ∧ ({ order1 .opened with lines := [{ line1 with finished := 2 }] } : Order).finishedSum + 1 = 3
    ∧ (order1 .opened).total = 3 ∧ (order1 .opened).finishedSum + 1 ≠ 3
    ∧ ({ order1 .opened with overflow := true } : Order).overflow = true
    ∧ (order1 .opened).bin = none ∧ (withBin .opened [line1]).bin 4 ≠ none ∧ cell.bin 0 = none
    ∧ (∀ k, k < 32 → ({ cell with pack := { bins := .replicate 32 (some { order := 9 }) } } : State).bin k ≠ none) := by
  decide +kernel

theorem witness_packConfirm :
    (∀ a ∈ [(0 : Byte), 1, 2, 3, 4, 5, 6, 7, 8],
        (presenting packed ⟨5, .pack, none, some 4⟩).Accepts 7 .packConfirm (ticket5 ++ [a])
        ∧ payloadTicket (ticket5 ++ [a]) = some 5 ∧ payloadByte (ticket5 ++ [a]) 5 = a)
    ∧ packAction? 2 = some .pack ∧ packAction? 0 = some .single ∧ packAction? 7 = some .recure ∧ 7 < (8 : Byte).toNat
    ∧ (atExit packed).pack.presented = none
    ∧ (presenting packed ⟨6, .pack, none, none⟩).pack.presented = some ⟨6, .pack, none, none⟩
    ∧ Verdict.ship ≠ .pack ∧ ({ packed with disposition := .restock } : Garment).disposition ≠ .active
    ∧ (presenting packed ⟨5, .pack, none, some 4⟩).garment? 5 = some packed
    ∧ (presenting packed ⟨5, .pack, none, some 4⟩).order? 1 = some { order1 .opened with bin := some 4 }
    ∧ (presenting packed ⟨5, .pack, none, some 4⟩).bin 4 = some { order := 1, count := 98 }
    ∧ (order1 .opened).lines[0]? = some line1 := by unfold State.Accepts; decide +kernel
/-- The last finish of a CANCELLING order, whose bin 4 takes the shirt, and one that leaves a garment allocated. -/
theorem witness_packConfirm_cancelling :
    (presentingOf (order1 .cancelling) packed ⟨5, .pack, none, some 4⟩).Accepts 7 .packConfirm (ticket5 ++ [2])
    ∧ (presentingOf (order1 .cancelling) packed ⟨5, .pack, none, some 4⟩).order? 1 =
        some { order1 .cancelling with bin := some 4 }
    ∧ (presentingOf (order1 .cancelling) packed ⟨5, .pack, none, some 4⟩).bin 4 = some { order := 1, count := 98 }
    ∧ (order1 .cancelling).allocatedSum = 1
    ∧ ({ order1 .cancelling with lines := [{ line1 with allocated := 2 }] } : Order).allocatedSum = 2 := by
  unfold State.Accepts; decide +kernel
/-- The garment of an INSPECT verdict, whose order holds no bin, with the given bins. -/
def inspecting (bins : Vector (Option BinHold) 32) : State :=
  let s := packing packed (order1 .opened)
  { s with pack := { s.pack with presented := some ⟨5, .inspect, none, none⟩, bins := bins } }
/-- An ACCEPT that reaches each verdict: SINGLE, SHIP, OVERFLOW, PACK with the bin held, PACK with a bin assigned, OVERFLOW
with no bin free; and the ACCEPT of a CANCELLING order (R145, R146, R149). -/
theorem witness_packConfirm_accept :
    (∀ o ∈ [order1 .opened, { order1 .opened with lines := [{ line1 with ordered := 1 }] },
          { order1 .opened with lines := [{ line1 with finished := 2 }] }, { order1 .opened with overflow := true },
          order1 .cancelling],
        (presentingOf o packed ⟨5, .inspect, none, none⟩).Accepts 7 .packConfirm (ticket5 ++ [4])
        ∧ (presentingOf o packed ⟨5, .inspect, none, none⟩).order? 1 = some { o with bin := some 4 })
    ∧ packAction? 4 = some .accept ∧ packed.disposition = .active ∧ packed.bound = some (1, 0)
    ∧ ({ order1 .opened with lines := [{ line1 with ordered := 1 }] } : Order).total = 1
    ∧ ({ order1 .opened with lines := [{ line1 with finished := 2 }] } : Order).finishedSum + 1 = 3
    ∧ (order1 .opened).total = 3 ∧ (order1 .opened).finishedSum + 1 ≠ 3 ∧ (order1 .opened).overflow = false
    ∧ ((inspecting (.replicate 32 none)).Accepts 7 .packConfirm (ticket5 ++ [4])
      ∧ (inspecting (.replicate 32 none)).order? 1 = some (order1 .opened) ∧ (order1 .opened).bin = none
      ∧ (inspecting (.replicate 32 none)).bin 0 = none)
    ∧ ((inspecting (.replicate 32 (some { order := 9 }))).Accepts 7 .packConfirm (ticket5 ++ [4])
      ∧ ∀ k, k < 32 → (inspecting (.replicate 32 (some { order := 9 }))).bin k ≠ none) := by
  unfold State.Accepts; decide +kernel
theorem witness_packConfirm_dispositions :
    (presenting packed ⟨5, .inspect, none, none⟩).pack.presented = some ⟨5, .inspect, none, none⟩
    ∧ (∀ c ∈ [RejectCause.disposition, .noOrder, .cancelled, .undercureLimit],
        (presenting packed ⟨5, .reject, some c, none⟩).pack.presented = some ⟨5, .reject, some c, none⟩)
    ∧ (presenting packed ⟨5, .recure, none, none⟩).pack.presented = some ⟨5, .recure, none, none⟩
    ∧ ((mode .drain (presenting packed ⟨5, .ship, none, none⟩)).DrainEndsWith 5)
    ∧ ¬ (presenting packed ⟨5, .ship, none, none⟩).DrainEndsWith 5 := by unfold State.DrainEndsWith; decide +kernel

/-! ### Readouts and cursors -/

theorem witness_readouts :
    ((7 : LinkNo).val = (7 : Byte).toNat ∧ 7 < (8 : Byte).toNat)
    ∧ cell.orderAtCursor = none ∧ (book .held).orderAtCursor = some (order1 .held) ∧ cell.garmentAtCursor = none
    ∧ (cursor5 inHeatZone).garmentAtCursor = some (shirt (.onBelt 30))
    ∧ (63 < (64 : Byte).toNat ∧ (63 : Byte).toNat ≤ 63 ∧ cell.tunnel.belt.length ≤ (0 : Byte).toNat)
    ∧ (cell.tunnel.curve[4]? = some { temp := 200, rate := 70 } ∧ 3 < cell.tunnel.geometry.segments)
    ∧ (inHeatZone.tunnel.belt[0]? = some 5 ∧ (atExit packed).pack.exitList[0]? = some 5
      ∧ (returningBehind 14).pack.returnList[0]? = some 5) := by decide +kernel
theorem witness_seeks :
    (9999999999 < 10 ^ 10 ∧ 0 < 10 ^ 10 ∧ cell.order? 9999999999 = none ∧ cell.order? 1 ≠ none)
    ∧ 9 < (0xA : Bcd5).toNat / 16 ^ 0 % 16 ∧ 9 < (0xA00000000 : Bcd5).toNat / 16 ^ 8 % 16 ∧ 15 < 16 ∧ 5 < (6 : Byte).toNat ∧ (5 : Byte).toNat ≤ 5
    ∧ (cell.host.orderCursor = none ∧ cell.book.admission = [] ++ 1 :: [])
    ∧ ((book .draft).host.orderCursor = some 1 ∧ 1 ∉ (book .draft).book.admission)
    ∧ ((book .opened).host.orderCursor = some 1 ∧ (1 : Nat) ∉ ([] : List Nat)
      ∧ (book .opened).book.admission = [] ++ 1 :: [])
    ∧ ((book .opened).orderAtCursor = some (order1 .opened) ∧ (order1 .opened).lines.length ≤ (1 : Byte).toNat
      ∧ (0 : Byte).toNat < (order1 .opened).lines.length ∧ (book .opened).host.lineCursor = some 0)
    ∧ (99999999 < 10 ^ 8 ∧ (9 : Nat) ≤ 9 ∧ inHeatZone.garment? 5 ≠ none ∧ cell.garment? 5 = none)
    ∧ (cell.carousel.platenCount ≤ (10 : Byte).toNat ∧ (9 : Byte).toNat < cell.carousel.platenCount
      ∧ (cell.platen 9).garment = none ∧ (inService2.platen 2).garment = some 5)
    ∧ ((cursor5 inHeatZone).garmentAtCursor = some (shirt (.onBelt 30)) ∧ (shirt (.onBelt 30)).bound = some (1, 0)
      ∧ ({ packed with bound := none } : Garment).bound = none) := by decide +kernel

end Sys2Proof.Tests
end

section
/-! SUPPORT. The dose of a window cell and the dose rows of a sheet (R70, R71, R76, R77). -/

namespace Sys2Proof.Machine

/-! ## The dose of one cell (R70) -/

/-- A code's live recipe is the live copy of its entry (R57, R67). -/
theorem Bank.recipe_eq_entry (b : Bank) (code : Code) : b.recipe code = (b.entry code.toNat).live := by
  unfold Bank.recipe Bank.entry
  cases b.entries[code.toNat]? <;> rfl

theorem dose_le (p factor : Nat) (choke : Int) : dose p factor choke ≤ 255 := by
  unfold dose; split <;> omega

/-- Holding the signed difference to 0 to 255 is the same from either end (R70). -/
theorem dose_eq_clamp (p factor : Nat) (choke : Int) :
    dose p factor choke =
      if p = 0 then 0 else (max 0 (min 255 (((p * factor + 64) / 128 : Nat) - choke))).toNat := by
  unfold dose; split
  · rfl
  · omega

/-! ## Sums over the numbers below a bound -/

/-- The sum of the values at 0 to `n` - 1. -/
def total (n : Nat) (f : Nat → Nat) : Nat := ((List.range n).map f).sum

@[simp] theorem total_zero (f : Nat → Nat) : total 0 f = 0 := rfl

@[simp] theorem total_succ (n : Nat) (f : Nat → Nat) : total (n + 1) f = total n f + f n := by
  simp only [total, List.range_succ, List.map_append, List.map_cons, List.map_nil, List.sum_append_nat, List.sum_cons,
    List.sum_nil, Nat.add_zero]

theorem total_const_zero (n : Nat) : total n (fun _ => 0) = 0 := by
  induction n with
  | zero => rfl
  | succ n ih => rw [total_succ, ih]

theorem total_add (n : Nat) (f g : Nat → Nat) : total n (fun k => f k + g k) = total n f + total n g := by
  induction n with
  | zero => rfl
  | succ n ih => simp only [total_succ, ih]; omega

/-- A table of values has one sum, taken by rows or by columns (R71). -/
theorem total_comm (m n : Nat) (v : Nat → Nat → Nat) :
    total m (fun i => total n fun j => v i j) = total n fun j => total m fun i => v i j := by
  induction m with
  | zero => exact (total_const_zero n).symm
  | succ m ih => simp only [total_succ, total_add, ih]

/-- The values listed group by group sum to the sum of the groups' sums. -/
theorem sum_flatMap_range (n : Nat) (g : Nat → List Nat) :
    ((List.range n).flatMap g).sum = total n fun k => (g k).sum := by
  induction n with
  | zero => rfl
  | succ n ih =>
    simp only [List.range_succ, List.flatMap_append, List.flatMap_cons, List.flatMap_nil, List.append_nil,
      List.sum_append_nat, ih, total_succ]

/-! ## The window cell of a garment cell (R76) -/

/-- A row or column number of a window with `n` of them, counted from the far end under a mirror bit (R76). -/
def turned (mirror : Bool) (n k : Nat) : Nat := if mirror then n - 1 - k else k

@[simp] theorem turned_false (n k : Nat) : turned false n k = k := rfl

@[simp] theorem turned_true (n k : Nat) : turned true n k = n - 1 - k := rfl

theorem turned_lt {n k : Nat} (m : Bool) (h : k < n) : turned m n k < n := by
  cases m <;> simp only [turned_false, turned_true] <;> omega

theorem turned_turned {n k : Nat} (m : Bool) (h : k < n) : turned m n (turned m n k) = k := by
  cases m <;> simp only [turned_false, turned_true]; omega

/-- Turning is undone by turning again, so it can be solved for its argument. -/
theorem eq_turned {n k a : Nat} (m : Bool) (hk : k < n) (h : turned m n k = a) : k = turned m n a := by
  rw [← h, turned_turned m hk]

/-- A sum over all numbers does not see the order in which they are taken (R71). -/
theorem total_turned (m : Bool) (n : Nat) (f : Nat → Nat) : (total n fun k => f (turned m n k)) = total n f := by
  cases m with
  | false => rfl
  | true =>
    have backward : (List.range n).map (turned true n) = (List.range n).reverse := by
      rw [List.range_eq_range', List.reverse_range', Nat.zero_add, ← List.range_eq_range']; rfl
    calc total n (fun k => f (turned true n k))
        = (((List.range n).map (turned true n)).map f).sum := by rw [List.map_map]; rfl
      _ = total n f := by rw [backward, List.map_reverse, List.sum_reverse_nat]; rfl

theorem windowCellOf_eq (o : Orientation) (rows cols i j : Nat) :
    windowCellOf o rows cols i j =
      if o.exchange then (turned o.mirrorY rows j, turned o.mirrorX cols i)
      else (turned o.mirrorY rows i, turned o.mirrorX cols j) := by
  unfold windowCellOf; cases o.exchange <;> rfl

/-- Garment cell (i, j) lies in the garment frame: the window's, turned on its side under EXCHANGE (R76). -/
def InFrame (o : Orientation) (rows cols i j : Nat) : Prop :=
  i < (if o.exchange = true then cols else rows) ∧ j < (if o.exchange = true then rows else cols)

/-- Each garment cell reads a cell of the window: the exchange first, then each mirror bit turns its own number (R76). -/
theorem windowCellOf_reads (o : Orientation) {rows cols i j : Nat} (h : InFrame o rows cols i j) :
    ∃ a b, windowCellOf o rows cols i j = (a, b) ∧ a < rows ∧ b < cols
      ∧ (o.exchange = false → (o.mirrorY = false → a = i) ∧ (o.mirrorY = true → a = rows - 1 - i)
          ∧ (o.mirrorX = false → b = j) ∧ (o.mirrorX = true → b = cols - 1 - j))
      ∧ (o.exchange = true → (o.mirrorY = false → a = j) ∧ (o.mirrorY = true → a = rows - 1 - j)
          ∧ (o.mirrorX = false → b = i) ∧ (o.mirrorX = true → b = cols - 1 - i)) := by
  obtain ⟨hi, hj⟩ := h
  rw [windowCellOf_eq]
  cases he : o.exchange <;> simp only [he, if_true, if_false, Bool.false_eq_true] at hi hj ⊢
  · refine ⟨_, _, rfl, turned_lt _ hi, turned_lt _ hj, ?_, nofun⟩
    refine fun _ => ⟨?_, ?_, ?_, ?_⟩ <;> intro hm <;> rw [hm] <;> rfl
  · refine ⟨_, _, rfl, turned_lt _ hj, turned_lt _ hi, nofun, ?_⟩
    refine fun _ => ⟨?_, ?_, ?_, ?_⟩ <;> intro hm <;> rw [hm] <;> rfl

/-- Each window cell is read by one garment cell: the numbers turned back, in the exchanged order (R76). -/
theorem windowCellOf_reached_once (o : Orientation) {rows cols a b : Nat} (ha : a < rows) (hb : b < cols) :
    ∃ i j, InFrame o rows cols i j ∧ windowCellOf o rows cols i j = (a, b)
      ∧ ∀ i' j', InFrame o rows cols i' j' → windowCellOf o rows cols i' j' = (a, b) → i' = i ∧ j' = j := by
  simp only [windowCellOf_eq, InFrame]
  cases o.exchange <;> simp only [if_true, if_false, Bool.false_eq_true, Prod.mk.injEq]
  · refine ⟨turned o.mirrorY rows a, turned o.mirrorX cols b, ⟨turned_lt _ ha, turned_lt _ hb⟩,
      ⟨turned_turned _ ha, turned_turned _ hb⟩, ?_⟩
    rintro i' j' ⟨hi, hj⟩ ⟨ea, eb⟩
    exact ⟨eq_turned _ hi ea, eq_turned _ hj eb⟩
  · refine ⟨turned o.mirrorX cols b, turned o.mirrorY rows a, ⟨turned_lt _ hb, turned_lt _ ha⟩,
      ⟨turned_turned _ ha, turned_turned _ hb⟩, ?_⟩
    rintro i' j' ⟨hi, hj⟩ ⟨ea, eb⟩
    exact ⟨eq_turned _ hi eb, eq_turned _ hj ea⟩

/-! ## Sums over the garment frame and over the window (R71) -/

/-- A sum over the garment frame, row by row, is the sum over the window, whatever the orientation (R71, R76). -/
theorem total_windowCellOf (o : Orientation) (rows cols : Nat) (v : Nat × Nat → Nat) :
    (total (if o.exchange then cols else rows) fun i => total (if o.exchange then rows else cols) fun j =>
        v (windowCellOf o rows cols i j))
      = total rows fun a => total cols fun b => v (a, b) := by
  have turnBoth : (total rows fun i => total cols fun j => v (turned o.mirrorY rows i, turned o.mirrorX cols j))
      = total rows fun a => total cols fun b => v (a, b) := by
    rw [← total_turned o.mirrorY rows fun a => total cols fun b => v (a, b)]
    exact congrArg (total rows) (funext fun i => total_turned o.mirrorX cols fun b => v (turned o.mirrorY rows i, b))
  simp only [windowCellOf_eq]
  cases o.exchange with
  | false => exact turnBoth
  | true => exact (total_comm ..).trans turnBoth

/-- The Dsum of the cell pass is the sum of the doses of its cells (R70, R71). -/
theorem cellPass_dsum (i : PassInputs) (cells : List Code) :
    (cellPass i cells).dsum =
      (cells.map fun cell => dose (i.bank.recipe (effectiveCode i.mask cell)).p i.factor i.choke).sum := by
  have from_sums : ∀ sums : RunningSums, (cells.foldl (passCell i) sums).dsum = sums.dsum
      + (cells.map fun cell => dose (i.bank.recipe (effectiveCode i.mask cell)).p i.factor i.choke).sum := by
    induction cells with
    | nil => intro sums; rfl
    | cons cell cells ih =>
      intro sums
      simp only [List.foldl_cons, List.map_cons, List.sum_cons, ih, passCell, Nat.add_assoc]
  exact (from_sums {}).trans (Nat.zero_add _)

/-! ## Dose rows (R77) -/

namespace State

theorem doseRow_length (s : State) (c : Claim) (f : SheetFigures) (i : Nat) : (s.doseRow c f i).length = f.cols := by
  simp only [doseRow, List.length_map, List.length_range]

theorem doseRow_le (s : State) (c : Claim) (f : SheetFigures) (i : Nat) : ∀ d ∈ s.doseRow c f i, d ≤ 255 := by
  intro d hd
  obtain ⟨j, -, rfl⟩ := List.mem_map.1 hd
  exact dose_le _ _ _

/-- The dose of a window cell, written out from the claim (R70, R77). -/
theorem claimDose_eq (s : State) (c : Claim) (a b : Nat) :
    s.claimDose c a b =
      let cell := s.art.cell (s.slot c.slot) ((c.startRow + a) * (s.slot c.slot).width + c.startCol + b)
      let load := ((s.bank c.bank).entry (cell ^^^ c.mask).toNat).live.p
      if load = 0 then 0 else (max 0 (min 255 (((load * c.factor + 64) / 128 : Nat) - c.choke))).toNat := by
  simp only [claimDose, Bank.recipe_eq_entry, dose_eq_clamp, effectiveCode, windowIndex]

theorem doseRow_getElem? (s : State) (c : Claim) (f : SheetFigures) (i : Nat) {j : Nat} (h : j < f.cols) :
    (s.doseRow c f i)[j]? = some (s.claimDose c (windowCellOf f.orient c.rows c.cols i j).1
      (windowCellOf f.orient c.rows c.cols i j).2) := by
  simp only [doseRow, List.getElem?_map, List.getElem?_range h, Option.map_some]

/-- The Dsum of a sheet is the sum of the doses that its claim gives the window cells (R71, R77). -/
theorem computeSheet_dsum (s : State) (art : ArtSettings) (key : BlankKey) :
    (s.computeSheet art key).figures.dsum =
      total (s.slot art.profile).rows fun a => total (s.slot art.profile).cols fun b =>
        s.claimDose (s.computeSheet art key).claim a b := by
  show (cellPass _ _).dsum = _
  rw [cellPass_dsum, windowCells, List.map_flatMap, sum_flatMap_range]
  simp only [List.map_map]
  rfl

/-- The dose rows of a sheet just computed sum to its Dsum (R71, R77). -/
theorem doseRows_sum (s : State) (art : ArtSettings) (key : BlankKey) :
    ((List.range (s.computeSheet art key).figures.rows).map fun i =>
        (s.doseRow (s.computeSheet art key).claim (s.computeSheet art key).figures i).sum).sum
      = (s.computeSheet art key).figures.dsum := by
  rw [computeSheet_dsum]
  exact total_windowCellOf art.orient _ _ fun ab => s.claimDose (s.computeSheet art key).claim ab.1 ab.2

end State

/-- Settles O42: the sum over the garment frame is turned back into the sum over the window. -/
theorem doseRowsSumToDsum : Obligations.DoseRowsSumToDsum := by
  refine ⟨fun s art key => ⟨s.doseRows_sum art key, fun i _ => ⟨s.doseRow_length _ _ i, s.doseRow_le _ _ i⟩⟩,
    fun o rows cols => ⟨fun i j h => windowCellOf_reads o h, fun a b ha hb => windowCellOf_reached_once o ha hb⟩, ?_⟩
  intro s c f i j hj
  rw [State.doseRow_getElem? s c f i hj, State.claimDose_eq]

end Sys2Proof.Machine
end

section
/-! SUPPORT. The requests that begin service, and DOSE ROW: what each answers by the state of its link's stop (R77, R105,
R111, R112, R114, R116). -/

namespace Sys2Proof.Machine

/-! ## Effects of one update, as a frame -/

namespace State

variable (s : State)

/-- A service state other than NONE is written in the stops alone (R85, R121). -/
theorem setService_frame (n : Nat) (v : Service) (h : v ≠ .none) :
    s.setService n v = { s with carousel := { s.carousel with stops := (s.setService n v).carousel.stops } } := by
  calc s.setService n v
      = { s with carousel := { s.carousel with
            stops := (s.setService n v).carousel.stops, unloadRecord := (s.setService n v).carousel.unloadRecord } } := rfl
    _ = _ := by rw [s.setService_unloadRecord n v h]

/-- The late test begins a late dwell, or changes nothing (R94). -/
theorem lateTest_cases :
    s.lateTest = (s.onCarousel fun c => { c with late := true }).raise .stationLate ∨ s.lateTest = s := by
  unfold lateTest; split
  · exact .inl rfl
  · exact .inr rfl

/-- A request that passes the checks is answered with what its block makes of it (R102, R103). -/
theorem serve_of_accepts {l : LinkNo} {rq : Request} {payload : List Byte} (block : State → Served)
    (h : s.Accepts l rq payload) :
    s.serve l rq payload block = (block s).state.reply l rq.code (block s).code (block s).payload :=
  (serve_spec s l rq payload block h.1).2 h.2

/-! ## The begin of service where nothing can begin (R105) -/

theorem beginService_notDue {n : Nat} (f : Garment → List Byte)
    (h : s.service n = .none ∨ s.service n = .done ∨ s.service n = .missed) :
    s.beginService n f = unserved s .notDue := by
  unfold beginService
  obtain h | h | h := h <;> rw [h]

/-- A DUE stop whose garment is gone or no longer ACTIVE becomes DONE (R105). -/
theorem beginService_due_inactive {n : Nat} (f : Garment → List Byte) (hn : s.service n = .due)
    (h : ∀ g, s.garmentAt n = some g → g.disposition ≠ .active) :
    s.beginService n f = unserved (s.setService n .done) .notDue := by
  unfold beginService
  rw [hn]
  cases hg : s.garmentAt n with
  | none => rfl
  | some g =>
    have inactive : g.isActive = false := beq_eq_false_iff_ne.2 (h g hg)
    simp only [inactive, Bool.false_eq_true, if_false]

end State

/-! ## SHEET, PRESS START and JOB FETCH (R111, R114, R116) -/

/-- The requests that begin service (R105). -/
def Begins (rq : Request) : Prop := rq = .sheet ∨ rq = .pressStart ∨ rq = .jobFetch

/-- The reply payload of a request that begins service, for the garment at the stop of a station of the given kind. -/
def beginReply (rq : Request) (k : StationKind) (g : Garment) : List Byte :=
  if rq = .sheet then sheetReply g else if rq = .pressStart then ticketBytes (some g.seq) else jobReply k g

/-- The fields of the reply, written out from the garment's figures (R111, R114, R116). -/
theorem beginReply_eq (rq : Request) (k : StationKind) (g : Garment) :
    beginReply rq k g =
      let f := g.figures
      if rq = .sheet then
        ticketBytes (some g.seq) ++ [u8 f.rows, u8 f.cols] ++ u24 f.dsum ++ [f.orient.byte]
      else if rq = .pressStart then ticketBytes (some g.seq)
      else
        ticketBytes (some g.seq) ++ [u8 f.profile, f.orient.byte]
          ++ [if f.orient.exchange then u8 f.rows else u8 f.cols, if f.orient.exchange then u8 f.cols else u8 f.rows]
          ++ [u8 f.x, u8 f.y, if k = .printW then u8 f.passes else 0] ++ u16 f.capped
          ++ u24 (if k = .printW then f.wsum * f.passes else f.usum) := by
  have passes : u8 (passesTold k g.figures) = if k = .printW then u8 g.figures.passes else 0 := by
    unfold passesTold; split <;> rfl
  simp only [beginReply, sheetReply, jobReply, passes]
  cases g.figures.orient.exchange <;> rfl

/-- An accepted request that begins service is answered with what the begin of service at its link's stop makes of it. -/
theorem exec_begins {rq : Request} {link : LinkNo} {s : State} (hrq : Begins rq) (h : s.Accepts link rq []) :
    let r := s.beginService (s.link link).stop (beginReply rq (s.link link).kind)
    exec (rq.command link []) s = .next (r.state.reply link rq.code r.code r.payload) := by
  obtain rfl | rfl | rfl := hrq <;> exact congrArg Host.Outcome.next (s.serve_of_accepts _ h)

section
variable {rq : Request} {link : LinkNo} {s : State} (hrq : Begins rq) (h : s.Accepts link rq [])
include hrq h

theorem exec_begins_notDue
    (hv : s.service (s.link link).stop = .none ∨ s.service (s.link link).stop = .done
      ∨ s.service (s.link link).stop = .missed) :
    exec (rq.command link []) s = .next (s.reply link rq.code .notDue []) := by
  rw [exec_begins hrq h, s.beginService_notDue _ hv]; rfl

theorem exec_begins_inService {g : Garment} (hv : s.service (s.link link).stop = .inService)
    (hg : s.garmentAt (s.link link).stop = some g) :
    exec (rq.command link []) s = .next (s.reply link rq.code .ok (beginReply rq (s.link link).kind g)) := by
  rw [exec_begins hrq h, s.beginService_inService _ _ hv hg]; rfl

theorem exec_begins_due_inactive (hn : (s.link link).stop < 16) (hv : s.service (s.link link).stop = .due)
    (hg : ∀ g, s.garmentAt (s.link link).stop = some g → g.disposition ≠ .active) :
    ∃ t, exec (rq.command link []) s = .next t ∧ s.Answered t link rq .notDue []
      ∧ t.stop (s.link link).stop = { (s.stop (s.link link).stop) with service := .done }
      ∧ (∀ m, m ≠ (s.link link).stop → t.stop m = s.stop m)
      ∧ t = { s with carousel := { s.carousel with stops := t.carousel.stops }, station := t.station } := by
  refine ⟨_, exec_begins hrq h, ?_⟩
  rw [s.beginService_due_inactive _ hv hg]
  refine ⟨s.answered_reply _ rfl .., s.setService_stop_self _ _ hn, fun m hm => s.setService_stop_other _ m _ hm, ?_⟩
  exact congrArg (State.reply link rq.code .notDue []) (s.setService_frame _ .done nofun)

theorem exec_begins_due_active {g : Garment} (hn : (s.link link).stop < 16) (hv : s.service (s.link link).stop = .due)
    (hg : s.garmentAt (s.link link).stop = some g) (ha : g.disposition = .active) :
    ∃ t, exec (rq.command link []) s = .next t ∧ s.Answered t link rq .ok (beginReply rq (s.link link).kind g)
      ∧ t.stop (s.link link).stop = { (s.stop (s.link link).stop) with service := .inService }
      ∧ (∀ m, m ≠ (s.link link).stop → t.stop m = s.stop m)
      ∧ t = { s with
          carousel := { s.carousel with stops := t.carousel.stops, late := t.carousel.late }
          attention := t.attention, station := t.station } := by
  have active : g.isActive = true := beq_iff_eq.2 ha
  have stops (n) := State.stop_of_carousel (State.lateTest_carousel (s.setService (s.link link).stop .inService)).1 n
  refine ⟨_, exec_begins hrq h, ?_⟩
  rw [s.beginService_due _ _ hv hg active]
  refine ⟨s.answered_reply _ ?_ .., ?_, fun m hm => ?_, ?_⟩
  · simp only [Served.lateTest, servedOk, State.lateTest_keeps, State.setService_station]
  · exact (stops _).trans (s.setService_stop_self _ _ hn)
  · exact (stops m).trans (s.setService_stop_other _ m _ hm)
  · obtain ⟨stops, hstops⟩ : ∃ stops, s.setService (s.link link).stop .inService =
        { s with carousel := { s.carousel with stops := stops } } := ⟨_, s.setService_frame _ .inService nofun⟩
    simp only [Served.lateTest, servedOk]
    obtain late | late := (s.setService (s.link link).stop .inService).lateTest_cases <;> rw [late, hstops] <;> rfl

end

/-! ## DOSE ROW (R77, R112) -/

/-- An accepted DOSE ROW is answered with what the stop of its link serves. -/
theorem exec_doseRow {link : LinkNo} {row : Byte} {s : State} (h : s.Accepts link .doseRow [row]) :
    let r := s.serveDoseRow (s.link link).stop row.toNat
    exec (.doseRow link [row]) s = .next (r.state.reply link 0x21 r.code r.payload) :=
  congrArg Host.Outcome.next (s.serve_of_accepts _ h)

namespace State

variable (s : State)

theorem serveDoseRow_notInService {n : Nat} (row : Nat) (h : s.service n ≠ .inService) :
    s.serveDoseRow n row = unserved s .notInService := by
  unfold serveDoseRow; rw [if_pos h]

/-- In service, a row below R′ is answered with the doses of the garment's claim, and any other with RANGE (R112). -/
theorem serveDoseRow_inService {n : Nat} (row : Nat) {g : Garment} {c : Claim} (h : s.service n = .inService)
    (hg : s.garmentAt n = some g) (hc : g.claim = some c) :
    s.serveDoseRow n row =
      if g.figures.rows ≤ row then unserved s .range else servedOk s ((s.doseRow c g.figures row).map u8) := by
  unfold serveDoseRow
  rw [if_neg (not_not_intro h), hg]
  simp only [hc]

end State

/-- Settles O51: each request by the state of its link's stop. -/
theorem serviceBeginsAtADueStop : Obligations.ServiceBeginsAtADueStop := by
  constructor
  · intro rq link s hrq h
    simp only [← beginReply_eq]
    exact ⟨exec_begins_notDue hrq h, fun g => exec_begins_inService hrq h, exec_begins_due_inactive hrq h,
      fun g => exec_begins_due_active hrq h⟩
  · intro link row s h
    refine ⟨fun hv => ?_, fun g c hv hg hc => ⟨fun hrow => ?_, fun hrow => ?_⟩⟩
    · rw [exec_doseRow h, s.serveDoseRow_notInService _ hv]; rfl
    · rw [exec_doseRow h, s.serveDoseRow_inService _ hv hg hc, if_pos hrow]; rfl
    · rw [exec_doseRow h, s.serveDoseRow_inService _ hv hg hc, if_neg (Nat.not_le.2 hrow)]
      simp only [← State.claimDose_eq]
      simp only [servedOk, State.doseRow, List.map_map, Function.comp_def]

end Sys2Proof.Machine
end
